-- ==== Sys2Proof/Word.lean ====
section
/-! DEFINITION. The two word types of the machine (spec 00_scope.md R5, R6): bytes of 8 bits and
words of 16 bits. Nothing else is a bit vector here. -/

namespace Sys2Proof

/-- A byte, 8 bits, value 0..255 (R5, R6): registers A, X, Y, S and every memory cell. -/
abbrev Byte := BitVec 8

/-- A word, 16 bits, value 0..65535 (R5, R6): the program counter and every address. -/
abbrev Word := BitVec 16

end Sys2Proof
end

