-- ==== Sys2Proof/Config.lean ====
section
/-! DEFINITION. The defaults of the platform's parameters (spec 00_scope.md R5, 92_eei_decisions.md D5) and the
free values. The parameters themselves, the vector addresses and the memory map, are plain data of State, so
that a claim is about every choice of them (entries 4 and 11). -/

namespace Sys2Proof.Config

/-- The default of `VEC_NMI`, the address of the non-maskable interrupt's vector (R5, R223).
PRESUMED (entry 11): the spec takes the default from general knowledge. Unsafe if a part differs. -/
def vecNmi : Word := 0xFFFA#16

/-- The default of `VEC_RESET`, the address of the reset vector (R5, R223). PRESUMED (entry 11). -/
def vecReset : Word := 0xFFFC#16

/-- The default of `VEC_IRQ`, the address of the vector that IRQ and BRK share (R5, R223).
PRESUMED (entry 11). -/
def vecIrq : Word := 0xFFFE#16

/-- The spec's `draw(8)` (R10): the n-th free byte of a run. It has no body, so nothing can be proved of
its value. DESIGN CHOICE (entry 3): a draw is this constant applied to the counter `State.draws`. -/
opaque freeByte : Nat → Byte

/-- The spec's `draw(1)` (R10): the n-th free bit of a run. DESIGN CHOICE (entry 3), as `freeByte`. -/
opaque freeBit : Nat → Bool

end Sys2Proof.Config
end

