-- ==== Sys2Proof/Syntax.lean ====
section
/-! DEFINITION. The instructions (spec 00_scope.md R1, 30_encoding.md R98): one constructor of `Instr`
for each of the 151 rows of spec/opcode_table.json, with the operand bytes the row's format carries.
`Instr.mnemonic`, `Instr.mode` and `Instr.operand` give the row's columns back. -/

namespace Sys2Proof

/-- The 56 mnemonics (R1). -/
inductive Mnemonic where
  | lda | ldx | ldy | sta | stx | sty
  | adc | sbc | cmp | cpx | cpy
  | and | bit | eor | ora
  | asl | lsr | rol | ror
  | dec | inc | tax | txa | dex | inx | tay | tya | dey | iny
  | bpl | bmi | bvc | bvs | bcc | bcs | bne | beq
  | jmp | jsr | rts
  | clc | sec | cli | sei | clv | cld | sed
  | txs | tsx | pha | pla | php | plp
  | brk | rti | nop
  deriving DecidableEq, Repr

/-- The 13 addressing modes, abbreviated as 30_encoding.md does (R85 to R97). -/
inductive Mode where
  | imp | acc | imm | zp | zpx | zpy | abs | abx | aby | izx | izy | rel | ind
  deriving DecidableEq, Repr

/-- Instruction length in bytes, op code included: the mode alone fixes it (R82). -/
def Mode.length : Mode → Nat
  | .imp => 1 | .acc => 1
  | .imm => 2 | .zp => 2 | .zpx => 2 | .zpy => 2 | .izx => 2 | .izy => 2 | .rel => 2
  | .abs => 3 | .abx => 3 | .aby => 3 | .ind => 3

/-- The operand bytes an instruction carries: formats F1, F2 and F3 (R81, R83). -/
inductive Field where
  | none
  | byte (op8 : Byte)
  | word (op16 : Word)
  deriving DecidableEq, Repr

/-- How many bytes the operand takes in the instruction (R81). -/
def Field.size : Field → Nat
  | .none => 0
  | .byte _ => 1
  | .word _ => 2

/-- The instructions, one constructor per row of the opcode table (R98). Operands: `v` an immediate
byte, `zp` a zero-page address, `w` an absolute address, `disp` a branch displacement (R83). -/
inductive Instr where
  -- 40_*.md
  | ldaImm (v : Byte)
  | ldaZp (zp : Byte)
  | ldaZpx (zp : Byte)
  | ldaAbs (w : Word)
  | ldaAbx (w : Word)
  | ldaAby (w : Word)
  | ldaIzx (zp : Byte)
  | ldaIzy (zp : Byte)
  | ldxImm (v : Byte)
  | ldxZp (zp : Byte)
  | ldxZpy (zp : Byte)
  | ldxAbs (w : Word)
  | ldxAby (w : Word)
  | ldyImm (v : Byte)
  | ldyZp (zp : Byte)
  | ldyZpx (zp : Byte)
  | ldyAbs (w : Word)
  | ldyAbx (w : Word)
  | staZp (zp : Byte)
  | staZpx (zp : Byte)
  | staAbs (w : Word)
  | staAbx (w : Word)
  | staAby (w : Word)
  | staIzx (zp : Byte)
  | staIzy (zp : Byte)
  | stxZp (zp : Byte)
  | stxZpy (zp : Byte)
  | stxAbs (w : Word)
  | styZp (zp : Byte)
  | styZpx (zp : Byte)
  | styAbs (w : Word)
  -- 41_*.md
  | adcImm (v : Byte)
  | adcZp (zp : Byte)
  | adcZpx (zp : Byte)
  | adcAbs (w : Word)
  | adcAbx (w : Word)
  | adcAby (w : Word)
  | adcIzx (zp : Byte)
  | adcIzy (zp : Byte)
  | sbcImm (v : Byte)
  | sbcZp (zp : Byte)
  | sbcZpx (zp : Byte)
  | sbcAbs (w : Word)
  | sbcAbx (w : Word)
  | sbcAby (w : Word)
  | sbcIzx (zp : Byte)
  | sbcIzy (zp : Byte)
  | cmpImm (v : Byte)
  | cmpZp (zp : Byte)
  | cmpZpx (zp : Byte)
  | cmpAbs (w : Word)
  | cmpAbx (w : Word)
  | cmpAby (w : Word)
  | cmpIzx (zp : Byte)
  | cmpIzy (zp : Byte)
  | cpxImm (v : Byte)
  | cpxZp (zp : Byte)
  | cpxAbs (w : Word)
  | cpyImm (v : Byte)
  | cpyZp (zp : Byte)
  | cpyAbs (w : Word)
  -- 42_*.md
  | andImm (v : Byte)
  | andZp (zp : Byte)
  | andZpx (zp : Byte)
  | andAbs (w : Word)
  | andAbx (w : Word)
  | andAby (w : Word)
  | andIzx (zp : Byte)
  | andIzy (zp : Byte)
  | bitZp (zp : Byte)
  | bitAbs (w : Word)
  | eorImm (v : Byte)
  | eorZp (zp : Byte)
  | eorZpx (zp : Byte)
  | eorAbs (w : Word)
  | eorAbx (w : Word)
  | eorAby (w : Word)
  | eorIzx (zp : Byte)
  | eorIzy (zp : Byte)
  | oraImm (v : Byte)
  | oraZp (zp : Byte)
  | oraZpx (zp : Byte)
  | oraAbs (w : Word)
  | oraAbx (w : Word)
  | oraAby (w : Word)
  | oraIzx (zp : Byte)
  | oraIzy (zp : Byte)
  -- 43_*.md
  | aslZp (zp : Byte)
  | aslZpx (zp : Byte)
  | aslAbs (w : Word)
  | aslAbx (w : Word)
  | aslAcc
  | lsrZp (zp : Byte)
  | lsrZpx (zp : Byte)
  | lsrAbs (w : Word)
  | lsrAbx (w : Word)
  | lsrAcc
  | rolZp (zp : Byte)
  | rolZpx (zp : Byte)
  | rolAbs (w : Word)
  | rolAbx (w : Word)
  | rolAcc
  | rorZp (zp : Byte)
  | rorZpx (zp : Byte)
  | rorAbs (w : Word)
  | rorAbx (w : Word)
  | rorAcc
  -- 44_*.md
  | decZp (zp : Byte)
  | decZpx (zp : Byte)
  | decAbs (w : Word)
  | decAbx (w : Word)
  | incZp (zp : Byte)
  | incZpx (zp : Byte)
  | incAbs (w : Word)
  | incAbx (w : Word)
  | tax
  | txa
  | dex
  | inx
  | tay
  | tya
  | dey
  | iny
  -- 45_*.md
  | bpl (disp : Byte)
  | bmi (disp : Byte)
  | bvc (disp : Byte)
  | bvs (disp : Byte)
  | bcc (disp : Byte)
  | bcs (disp : Byte)
  | bne (disp : Byte)
  | beq (disp : Byte)
  -- 46_*.md
  | jmpAbs (w : Word)
  | jmpInd (w : Word)
  | jsr (w : Word)
  | rts
  -- 47_*.md
  | clc
  | sec
  | cli
  | sei
  | clv
  | cld
  | sed
  -- 48_*.md
  | txs
  | tsx
  | pha
  | pla
  | php
  | plp
  -- 49_*.md
  | brk
  | rti
  | nop
  deriving DecidableEq, Repr

/-- The mnemonic of an instruction (the row's "mnemonic"). -/
def Instr.mnemonic : Instr → Mnemonic
  | .ldaImm _ => .lda
  | .ldaZp _ => .lda
  | .ldaZpx _ => .lda
  | .ldaAbs _ => .lda
  | .ldaAbx _ => .lda
  | .ldaAby _ => .lda
  | .ldaIzx _ => .lda
  | .ldaIzy _ => .lda
  | .ldxImm _ => .ldx
  | .ldxZp _ => .ldx
  | .ldxZpy _ => .ldx
  | .ldxAbs _ => .ldx
  | .ldxAby _ => .ldx
  | .ldyImm _ => .ldy
  | .ldyZp _ => .ldy
  | .ldyZpx _ => .ldy
  | .ldyAbs _ => .ldy
  | .ldyAbx _ => .ldy
  | .staZp _ => .sta
  | .staZpx _ => .sta
  | .staAbs _ => .sta
  | .staAbx _ => .sta
  | .staAby _ => .sta
  | .staIzx _ => .sta
  | .staIzy _ => .sta
  | .stxZp _ => .stx
  | .stxZpy _ => .stx
  | .stxAbs _ => .stx
  | .styZp _ => .sty
  | .styZpx _ => .sty
  | .styAbs _ => .sty
  | .adcImm _ => .adc
  | .adcZp _ => .adc
  | .adcZpx _ => .adc
  | .adcAbs _ => .adc
  | .adcAbx _ => .adc
  | .adcAby _ => .adc
  | .adcIzx _ => .adc
  | .adcIzy _ => .adc
  | .sbcImm _ => .sbc
  | .sbcZp _ => .sbc
  | .sbcZpx _ => .sbc
  | .sbcAbs _ => .sbc
  | .sbcAbx _ => .sbc
  | .sbcAby _ => .sbc
  | .sbcIzx _ => .sbc
  | .sbcIzy _ => .sbc
  | .cmpImm _ => .cmp
  | .cmpZp _ => .cmp
  | .cmpZpx _ => .cmp
  | .cmpAbs _ => .cmp
  | .cmpAbx _ => .cmp
  | .cmpAby _ => .cmp
  | .cmpIzx _ => .cmp
  | .cmpIzy _ => .cmp
  | .cpxImm _ => .cpx
  | .cpxZp _ => .cpx
  | .cpxAbs _ => .cpx
  | .cpyImm _ => .cpy
  | .cpyZp _ => .cpy
  | .cpyAbs _ => .cpy
  | .andImm _ => .and
  | .andZp _ => .and
  | .andZpx _ => .and
  | .andAbs _ => .and
  | .andAbx _ => .and
  | .andAby _ => .and
  | .andIzx _ => .and
  | .andIzy _ => .and
  | .bitZp _ => .bit
  | .bitAbs _ => .bit
  | .eorImm _ => .eor
  | .eorZp _ => .eor
  | .eorZpx _ => .eor
  | .eorAbs _ => .eor
  | .eorAbx _ => .eor
  | .eorAby _ => .eor
  | .eorIzx _ => .eor
  | .eorIzy _ => .eor
  | .oraImm _ => .ora
  | .oraZp _ => .ora
  | .oraZpx _ => .ora
  | .oraAbs _ => .ora
  | .oraAbx _ => .ora
  | .oraAby _ => .ora
  | .oraIzx _ => .ora
  | .oraIzy _ => .ora
  | .aslZp _ => .asl
  | .aslZpx _ => .asl
  | .aslAbs _ => .asl
  | .aslAbx _ => .asl
  | .aslAcc => .asl
  | .lsrZp _ => .lsr
  | .lsrZpx _ => .lsr
  | .lsrAbs _ => .lsr
  | .lsrAbx _ => .lsr
  | .lsrAcc => .lsr
  | .rolZp _ => .rol
  | .rolZpx _ => .rol
  | .rolAbs _ => .rol
  | .rolAbx _ => .rol
  | .rolAcc => .rol
  | .rorZp _ => .ror
  | .rorZpx _ => .ror
  | .rorAbs _ => .ror
  | .rorAbx _ => .ror
  | .rorAcc => .ror
  | .decZp _ => .dec
  | .decZpx _ => .dec
  | .decAbs _ => .dec
  | .decAbx _ => .dec
  | .incZp _ => .inc
  | .incZpx _ => .inc
  | .incAbs _ => .inc
  | .incAbx _ => .inc
  | .tax => .tax
  | .txa => .txa
  | .dex => .dex
  | .inx => .inx
  | .tay => .tay
  | .tya => .tya
  | .dey => .dey
  | .iny => .iny
  | .bpl _ => .bpl
  | .bmi _ => .bmi
  | .bvc _ => .bvc
  | .bvs _ => .bvs
  | .bcc _ => .bcc
  | .bcs _ => .bcs
  | .bne _ => .bne
  | .beq _ => .beq
  | .jmpAbs _ => .jmp
  | .jmpInd _ => .jmp
  | .jsr _ => .jsr
  | .rts => .rts
  | .clc => .clc
  | .sec => .sec
  | .cli => .cli
  | .sei => .sei
  | .clv => .clv
  | .cld => .cld
  | .sed => .sed
  | .txs => .txs
  | .tsx => .tsx
  | .pha => .pha
  | .pla => .pla
  | .php => .php
  | .plp => .plp
  | .brk => .brk
  | .rti => .rti
  | .nop => .nop

/-- The addressing mode of an instruction (the row's "mode"). -/
def Instr.mode : Instr → Mode
  | .ldaImm _ => .imm
  | .ldaZp _ => .zp
  | .ldaZpx _ => .zpx
  | .ldaAbs _ => .abs
  | .ldaAbx _ => .abx
  | .ldaAby _ => .aby
  | .ldaIzx _ => .izx
  | .ldaIzy _ => .izy
  | .ldxImm _ => .imm
  | .ldxZp _ => .zp
  | .ldxZpy _ => .zpy
  | .ldxAbs _ => .abs
  | .ldxAby _ => .aby
  | .ldyImm _ => .imm
  | .ldyZp _ => .zp
  | .ldyZpx _ => .zpx
  | .ldyAbs _ => .abs
  | .ldyAbx _ => .abx
  | .staZp _ => .zp
  | .staZpx _ => .zpx
  | .staAbs _ => .abs
  | .staAbx _ => .abx
  | .staAby _ => .aby
  | .staIzx _ => .izx
  | .staIzy _ => .izy
  | .stxZp _ => .zp
  | .stxZpy _ => .zpy
  | .stxAbs _ => .abs
  | .styZp _ => .zp
  | .styZpx _ => .zpx
  | .styAbs _ => .abs
  | .adcImm _ => .imm
  | .adcZp _ => .zp
  | .adcZpx _ => .zpx
  | .adcAbs _ => .abs
  | .adcAbx _ => .abx
  | .adcAby _ => .aby
  | .adcIzx _ => .izx
  | .adcIzy _ => .izy
  | .sbcImm _ => .imm
  | .sbcZp _ => .zp
  | .sbcZpx _ => .zpx
  | .sbcAbs _ => .abs
  | .sbcAbx _ => .abx
  | .sbcAby _ => .aby
  | .sbcIzx _ => .izx
  | .sbcIzy _ => .izy
  | .cmpImm _ => .imm
  | .cmpZp _ => .zp
  | .cmpZpx _ => .zpx
  | .cmpAbs _ => .abs
  | .cmpAbx _ => .abx
  | .cmpAby _ => .aby
  | .cmpIzx _ => .izx
  | .cmpIzy _ => .izy
  | .cpxImm _ => .imm
  | .cpxZp _ => .zp
  | .cpxAbs _ => .abs
  | .cpyImm _ => .imm
  | .cpyZp _ => .zp
  | .cpyAbs _ => .abs
  | .andImm _ => .imm
  | .andZp _ => .zp
  | .andZpx _ => .zpx
  | .andAbs _ => .abs
  | .andAbx _ => .abx
  | .andAby _ => .aby
  | .andIzx _ => .izx
  | .andIzy _ => .izy
  | .bitZp _ => .zp
  | .bitAbs _ => .abs
  | .eorImm _ => .imm
  | .eorZp _ => .zp
  | .eorZpx _ => .zpx
  | .eorAbs _ => .abs
  | .eorAbx _ => .abx
  | .eorAby _ => .aby
  | .eorIzx _ => .izx
  | .eorIzy _ => .izy
  | .oraImm _ => .imm
  | .oraZp _ => .zp
  | .oraZpx _ => .zpx
  | .oraAbs _ => .abs
  | .oraAbx _ => .abx
  | .oraAby _ => .aby
  | .oraIzx _ => .izx
  | .oraIzy _ => .izy
  | .aslZp _ => .zp
  | .aslZpx _ => .zpx
  | .aslAbs _ => .abs
  | .aslAbx _ => .abx
  | .aslAcc => .acc
  | .lsrZp _ => .zp
  | .lsrZpx _ => .zpx
  | .lsrAbs _ => .abs
  | .lsrAbx _ => .abx
  | .lsrAcc => .acc
  | .rolZp _ => .zp
  | .rolZpx _ => .zpx
  | .rolAbs _ => .abs
  | .rolAbx _ => .abx
  | .rolAcc => .acc
  | .rorZp _ => .zp
  | .rorZpx _ => .zpx
  | .rorAbs _ => .abs
  | .rorAbx _ => .abx
  | .rorAcc => .acc
  | .decZp _ => .zp
  | .decZpx _ => .zpx
  | .decAbs _ => .abs
  | .decAbx _ => .abx
  | .incZp _ => .zp
  | .incZpx _ => .zpx
  | .incAbs _ => .abs
  | .incAbx _ => .abx
  | .tax => .imp
  | .txa => .imp
  | .dex => .imp
  | .inx => .imp
  | .tay => .imp
  | .tya => .imp
  | .dey => .imp
  | .iny => .imp
  | .bpl _ => .rel
  | .bmi _ => .rel
  | .bvc _ => .rel
  | .bvs _ => .rel
  | .bcc _ => .rel
  | .bcs _ => .rel
  | .bne _ => .rel
  | .beq _ => .rel
  | .jmpAbs _ => .abs
  | .jmpInd _ => .ind
  | .jsr _ => .abs
  | .rts => .imp
  | .clc => .imp
  | .sec => .imp
  | .cli => .imp
  | .sei => .imp
  | .clv => .imp
  | .cld => .imp
  | .sed => .imp
  | .txs => .imp
  | .tsx => .imp
  | .pha => .imp
  | .pla => .imp
  | .php => .imp
  | .plp => .imp
  | .brk => .imp
  | .rti => .imp
  | .nop => .imp

/-- The operand bytes of an instruction (R81, R83). -/
def Instr.operand : Instr → Field
  | .ldaImm x => .byte x
  | .ldaZp x => .byte x
  | .ldaZpx x => .byte x
  | .ldaAbs x => .word x
  | .ldaAbx x => .word x
  | .ldaAby x => .word x
  | .ldaIzx x => .byte x
  | .ldaIzy x => .byte x
  | .ldxImm x => .byte x
  | .ldxZp x => .byte x
  | .ldxZpy x => .byte x
  | .ldxAbs x => .word x
  | .ldxAby x => .word x
  | .ldyImm x => .byte x
  | .ldyZp x => .byte x
  | .ldyZpx x => .byte x
  | .ldyAbs x => .word x
  | .ldyAbx x => .word x
  | .staZp x => .byte x
  | .staZpx x => .byte x
  | .staAbs x => .word x
  | .staAbx x => .word x
  | .staAby x => .word x
  | .staIzx x => .byte x
  | .staIzy x => .byte x
  | .stxZp x => .byte x
  | .stxZpy x => .byte x
  | .stxAbs x => .word x
  | .styZp x => .byte x
  | .styZpx x => .byte x
  | .styAbs x => .word x
  | .adcImm x => .byte x
  | .adcZp x => .byte x
  | .adcZpx x => .byte x
  | .adcAbs x => .word x
  | .adcAbx x => .word x
  | .adcAby x => .word x
  | .adcIzx x => .byte x
  | .adcIzy x => .byte x
  | .sbcImm x => .byte x
  | .sbcZp x => .byte x
  | .sbcZpx x => .byte x
  | .sbcAbs x => .word x
  | .sbcAbx x => .word x
  | .sbcAby x => .word x
  | .sbcIzx x => .byte x
  | .sbcIzy x => .byte x
  | .cmpImm x => .byte x
  | .cmpZp x => .byte x
  | .cmpZpx x => .byte x
  | .cmpAbs x => .word x
  | .cmpAbx x => .word x
  | .cmpAby x => .word x
  | .cmpIzx x => .byte x
  | .cmpIzy x => .byte x
  | .cpxImm x => .byte x
  | .cpxZp x => .byte x
  | .cpxAbs x => .word x
  | .cpyImm x => .byte x
  | .cpyZp x => .byte x
  | .cpyAbs x => .word x
  | .andImm x => .byte x
  | .andZp x => .byte x
  | .andZpx x => .byte x
  | .andAbs x => .word x
  | .andAbx x => .word x
  | .andAby x => .word x
  | .andIzx x => .byte x
  | .andIzy x => .byte x
  | .bitZp x => .byte x
  | .bitAbs x => .word x
  | .eorImm x => .byte x
  | .eorZp x => .byte x
  | .eorZpx x => .byte x
  | .eorAbs x => .word x
  | .eorAbx x => .word x
  | .eorAby x => .word x
  | .eorIzx x => .byte x
  | .eorIzy x => .byte x
  | .oraImm x => .byte x
  | .oraZp x => .byte x
  | .oraZpx x => .byte x
  | .oraAbs x => .word x
  | .oraAbx x => .word x
  | .oraAby x => .word x
  | .oraIzx x => .byte x
  | .oraIzy x => .byte x
  | .aslZp x => .byte x
  | .aslZpx x => .byte x
  | .aslAbs x => .word x
  | .aslAbx x => .word x
  | .aslAcc => .none
  | .lsrZp x => .byte x
  | .lsrZpx x => .byte x
  | .lsrAbs x => .word x
  | .lsrAbx x => .word x
  | .lsrAcc => .none
  | .rolZp x => .byte x
  | .rolZpx x => .byte x
  | .rolAbs x => .word x
  | .rolAbx x => .word x
  | .rolAcc => .none
  | .rorZp x => .byte x
  | .rorZpx x => .byte x
  | .rorAbs x => .word x
  | .rorAbx x => .word x
  | .rorAcc => .none
  | .decZp x => .byte x
  | .decZpx x => .byte x
  | .decAbs x => .word x
  | .decAbx x => .word x
  | .incZp x => .byte x
  | .incZpx x => .byte x
  | .incAbs x => .word x
  | .incAbx x => .word x
  | .tax => .none
  | .txa => .none
  | .dex => .none
  | .inx => .none
  | .tay => .none
  | .tya => .none
  | .dey => .none
  | .iny => .none
  | .bpl x => .byte x
  | .bmi x => .byte x
  | .bvc x => .byte x
  | .bvs x => .byte x
  | .bcc x => .byte x
  | .bcs x => .byte x
  | .bne x => .byte x
  | .beq x => .byte x
  | .jmpAbs x => .word x
  | .jmpInd x => .word x
  | .jsr x => .word x
  | .rts => .none
  | .clc => .none
  | .sec => .none
  | .cli => .none
  | .sei => .none
  | .clv => .none
  | .cld => .none
  | .sed => .none
  | .txs => .none
  | .tsx => .none
  | .pha => .none
  | .pla => .none
  | .php => .none
  | .plp => .none
  | .brk => .none
  | .rti => .none
  | .nop => .none

/-- Length of an instruction in bytes (R80, R82). -/
def Instr.length (i : Instr) : Nat := i.mode.length

end Sys2Proof
end

