-- ==== Sys2Proof/WellFormed.lean ====
section
/-! DEFINITION. Which combinations of mnemonic, mode and operand are instructions: the second table of
30_encoding.md R98 ("every combination not listed does not exist") and the lengths of R82. A raw form can
break either rule; a term of `Instr` cannot (Sys2Proof/Laws/PerInstr.lean). -/

namespace Sys2Proof

/-- An instruction as the three columns an assembler line gives: mnemonic, mode, operand. -/
structure RawInstr where
  mnemonic : Mnemonic
  mode : Mode
  operand : Field
  deriving DecidableEq, Repr

/-- The modes each mnemonic has (R98, second table; R85 to R97). -/
def Mnemonic.modes : Mnemonic → List Mode
  | .adc | .and | .cmp | .eor | .lda | .ora | .sbc => [.imm, .zp, .zpx, .abs, .abx, .aby, .izx, .izy]
  | .sta => [.zp, .zpx, .abs, .abx, .aby, .izx, .izy]
  | .asl | .lsr | .rol | .ror => [.acc, .zp, .zpx, .abs, .abx]
  | .dec | .inc => [.zp, .zpx, .abs, .abx]
  | .bit => [.zp, .abs]
  | .cpx | .cpy => [.imm, .zp, .abs]
  | .ldx => [.imm, .zp, .zpy, .abs, .aby]
  | .ldy => [.imm, .zp, .zpx, .abs, .abx]
  | .stx => [.zp, .zpy, .abs]
  | .sty => [.zp, .zpx, .abs]
  | .jmp => [.abs, .ind]
  | .jsr => [.abs]
  | .bpl | .bmi | .bvc | .bvs | .bcc | .bcs | .bne | .beq => [.rel]
  | .tax | .txa | .dex | .inx | .tay | .tya | .dey | .iny | .rts
  | .clc | .sec | .cli | .sei | .clv | .cld | .sed | .txs | .tsx
  | .pha | .pla | .php | .plp | .brk | .rti | .nop => [.imp]

/-- The two checks on a raw form: the mnemonic has the mode (R98), and the operand has the size the mode's
length leaves for it (R82). -/
def RawInstr.wellFormed (r : RawInstr) : Bool :=
  r.mnemonic.modes.contains r.mode && r.operand.size + 1 == r.mode.length

/-- The raw form of an instruction. -/
def Instr.raw (i : Instr) : RawInstr :=
  { mnemonic := i.mnemonic, mode := i.mode, operand := i.operand }

/-- An instruction is well formed when its raw form passes both checks. -/
def WellFormed (i : Instr) : Bool := i.raw.wellFormed

end Sys2Proof
end

