-- ==== Sys2Proof/Decode.lean ====
section
/-! DEFINITION. From bytes to instructions and back (spec 30_encoding.md R80 to R84, R98, R99). The decoder
is the opcode map of R98 read row by row; it is total on any bytes and rejects by name. The encoder
writes the op code from each instruction's own Encoding table and the operand low byte first. -/

namespace Sys2Proof

/-- `lo(w) = w[7:0]` (R7). -/
def lo (w : Word) : Byte := BitVec.ofNat 8 w.toNat

/-- `hi(w) = w[15:8]` (R7). -/
def hi (w : Word) : Byte := BitVec.ofNat 8 (w.toNat / 256)

/-- `{h, l} = h * 256 + l` (R7): the word with high byte `h` and low byte `l`. -/
def join (h l : Byte) : Word := BitVec.ofNat 16 (h.toNat * 256 + l.toNat)

/-- What an op code byte stands for: an instruction of one byte (F1), or one that takes an operand byte
(F2) or an operand word (F3) (R81). -/
inductive Shape where
  | one (i : Instr)
  | two (f : Byte → Instr)
  | three (f : Word → Instr)

/-- The operand bytes that follow the op code (R81). -/
def Shape.operandSize : Shape → Nat
  | .one _ => 0
  | .two _ => 1
  | .three _ => 2

/-- Row 0x of the opcode map (R98). -/
def opcodeRow0 : List (Nat × Shape) :=
  [(0x00, .one .brk), (0x01, .two .oraIzx), (0x05, .two .oraZp),
   (0x06, .two .aslZp), (0x08, .one .php), (0x09, .two .oraImm),
   (0x0A, .one .aslAcc), (0x0D, .three .oraAbs), (0x0E, .three .aslAbs)]

/-- Row 1x of the opcode map (R98). -/
def opcodeRow1 : List (Nat × Shape) :=
  [(0x10, .two .bpl), (0x11, .two .oraIzy), (0x15, .two .oraZpx),
   (0x16, .two .aslZpx), (0x18, .one .clc), (0x19, .three .oraAby),
   (0x1D, .three .oraAbx), (0x1E, .three .aslAbx)]

/-- Row 2x of the opcode map (R98). -/
def opcodeRow2 : List (Nat × Shape) :=
  [(0x20, .three .jsr), (0x21, .two .andIzx), (0x24, .two .bitZp),
   (0x25, .two .andZp), (0x26, .two .rolZp), (0x28, .one .plp),
   (0x29, .two .andImm), (0x2A, .one .rolAcc), (0x2C, .three .bitAbs),
   (0x2D, .three .andAbs), (0x2E, .three .rolAbs)]

/-- Row 3x of the opcode map (R98). -/
def opcodeRow3 : List (Nat × Shape) :=
  [(0x30, .two .bmi), (0x31, .two .andIzy), (0x35, .two .andZpx),
   (0x36, .two .rolZpx), (0x38, .one .sec), (0x39, .three .andAby),
   (0x3D, .three .andAbx), (0x3E, .three .rolAbx)]

/-- Row 4x of the opcode map (R98). -/
def opcodeRow4 : List (Nat × Shape) :=
  [(0x40, .one .rti), (0x41, .two .eorIzx), (0x45, .two .eorZp),
   (0x46, .two .lsrZp), (0x48, .one .pha), (0x49, .two .eorImm),
   (0x4A, .one .lsrAcc), (0x4C, .three .jmpAbs), (0x4D, .three .eorAbs),
   (0x4E, .three .lsrAbs)]

/-- Row 5x of the opcode map (R98). -/
def opcodeRow5 : List (Nat × Shape) :=
  [(0x50, .two .bvc), (0x51, .two .eorIzy), (0x55, .two .eorZpx),
   (0x56, .two .lsrZpx), (0x58, .one .cli), (0x59, .three .eorAby),
   (0x5D, .three .eorAbx), (0x5E, .three .lsrAbx)]

/-- Row 6x of the opcode map (R98). -/
def opcodeRow6 : List (Nat × Shape) :=
  [(0x60, .one .rts), (0x61, .two .adcIzx), (0x65, .two .adcZp),
   (0x66, .two .rorZp), (0x68, .one .pla), (0x69, .two .adcImm),
   (0x6A, .one .rorAcc), (0x6C, .three .jmpInd), (0x6D, .three .adcAbs),
   (0x6E, .three .rorAbs)]

/-- Row 7x of the opcode map (R98). -/
def opcodeRow7 : List (Nat × Shape) :=
  [(0x70, .two .bvs), (0x71, .two .adcIzy), (0x75, .two .adcZpx),
   (0x76, .two .rorZpx), (0x78, .one .sei), (0x79, .three .adcAby),
   (0x7D, .three .adcAbx), (0x7E, .three .rorAbx)]

/-- Row 8x of the opcode map (R98). -/
def opcodeRow8 : List (Nat × Shape) :=
  [(0x81, .two .staIzx), (0x84, .two .styZp), (0x85, .two .staZp),
   (0x86, .two .stxZp), (0x88, .one .dey), (0x8A, .one .txa),
   (0x8C, .three .styAbs), (0x8D, .three .staAbs), (0x8E, .three .stxAbs)]

/-- Row 9x of the opcode map (R98). -/
def opcodeRow9 : List (Nat × Shape) :=
  [(0x90, .two .bcc), (0x91, .two .staIzy), (0x94, .two .styZpx),
   (0x95, .two .staZpx), (0x96, .two .stxZpy), (0x98, .one .tya),
   (0x99, .three .staAby), (0x9A, .one .txs), (0x9D, .three .staAbx)]

/-- Row Ax of the opcode map (R98). -/
def opcodeRowA : List (Nat × Shape) :=
  [(0xA0, .two .ldyImm), (0xA1, .two .ldaIzx), (0xA2, .two .ldxImm),
   (0xA4, .two .ldyZp), (0xA5, .two .ldaZp), (0xA6, .two .ldxZp),
   (0xA8, .one .tay), (0xA9, .two .ldaImm), (0xAA, .one .tax),
   (0xAC, .three .ldyAbs), (0xAD, .three .ldaAbs), (0xAE, .three .ldxAbs)]

/-- Row Bx of the opcode map (R98). -/
def opcodeRowB : List (Nat × Shape) :=
  [(0xB0, .two .bcs), (0xB1, .two .ldaIzy), (0xB4, .two .ldyZpx),
   (0xB5, .two .ldaZpx), (0xB6, .two .ldxZpy), (0xB8, .one .clv),
   (0xB9, .three .ldaAby), (0xBA, .one .tsx), (0xBC, .three .ldyAbx),
   (0xBD, .three .ldaAbx), (0xBE, .three .ldxAby)]

/-- Row Cx of the opcode map (R98). -/
def opcodeRowC : List (Nat × Shape) :=
  [(0xC0, .two .cpyImm), (0xC1, .two .cmpIzx), (0xC4, .two .cpyZp),
   (0xC5, .two .cmpZp), (0xC6, .two .decZp), (0xC8, .one .iny),
   (0xC9, .two .cmpImm), (0xCA, .one .dex), (0xCC, .three .cpyAbs),
   (0xCD, .three .cmpAbs), (0xCE, .three .decAbs)]

/-- Row Dx of the opcode map (R98). -/
def opcodeRowD : List (Nat × Shape) :=
  [(0xD0, .two .bne), (0xD1, .two .cmpIzy), (0xD5, .two .cmpZpx),
   (0xD6, .two .decZpx), (0xD8, .one .cld), (0xD9, .three .cmpAby),
   (0xDD, .three .cmpAbx), (0xDE, .three .decAbx)]

/-- Row Ex of the opcode map (R98). -/
def opcodeRowE : List (Nat × Shape) :=
  [(0xE0, .two .cpxImm), (0xE1, .two .sbcIzx), (0xE4, .two .cpxZp),
   (0xE5, .two .sbcZp), (0xE6, .two .incZp), (0xE8, .one .inx),
   (0xE9, .two .sbcImm), (0xEA, .one .nop), (0xEC, .three .cpxAbs),
   (0xED, .three .sbcAbs), (0xEE, .three .incAbs)]

/-- Row Fx of the opcode map (R98). -/
def opcodeRowF : List (Nat × Shape) :=
  [(0xF0, .two .beq), (0xF1, .two .sbcIzy), (0xF5, .two .sbcZpx),
   (0xF6, .two .incZpx), (0xF8, .one .sed), (0xF9, .three .sbcAby),
   (0xFD, .three .sbcAbx), (0xFE, .three .incAbx)]

/-- The opcode map: the 151 defined op codes (R98), in the order of their bytes. -/
def opcodeTable : List (Nat × Shape) :=
  opcodeRow0 ++ opcodeRow1 ++ opcodeRow2 ++ opcodeRow3 ++
  opcodeRow4 ++ opcodeRow5 ++ opcodeRow6 ++ opcodeRow7 ++
  opcodeRow8 ++ opcodeRow9 ++ opcodeRowA ++ opcodeRowB ++
  opcodeRowC ++ opcodeRowD ++ opcodeRowE ++ opcodeRowF

/-- What an op code byte stands for, or nothing for the 105 undefined bytes (R82, R99). -/
def decodeOpcode (opc : Byte) : Option Shape := opcodeTable.lookup opc.toNat

/-- Why bytes are no instruction. -/
inductive DecodeError where
  /-- The op code byte is one of the 105 the spec leaves undefined (R99). -/
  | undefinedOpcode (opc : Byte)
  /-- There are fewer bytes than the op code's length calls for (R80). -/
  | truncated
  deriving DecidableEq, Repr

/-- The instruction at the head of a list of bytes, and the bytes after it (R80 to R84). -/
def decode : List Byte → Except DecodeError (Instr × List Byte)
  | [] => .error .truncated
  | opc :: rest =>
    match decodeOpcode opc, rest with
    | none, _ => .error (.undefinedOpcode opc)
    | some (.one i), rest => .ok (i, rest)
    | some (.two f), b :: rest => .ok (f b, rest)
    | some (.three f), l :: h :: rest => .ok (f (join h l), rest)
    | some (.two _), [] => .error .truncated
    | some (.three _), [] => .error .truncated
    | some (.three _), [_] => .error .truncated

/-- The op code byte of an instruction, from the Encoding table of its own rule (R121 to R212). -/
def Instr.opcode : Instr → Byte
  | .ldaImm _ => 0xA9#8
  | .ldaZp _ => 0xA5#8
  | .ldaZpx _ => 0xB5#8
  | .ldaAbs _ => 0xAD#8
  | .ldaAbx _ => 0xBD#8
  | .ldaAby _ => 0xB9#8
  | .ldaIzx _ => 0xA1#8
  | .ldaIzy _ => 0xB1#8
  | .ldxImm _ => 0xA2#8
  | .ldxZp _ => 0xA6#8
  | .ldxZpy _ => 0xB6#8
  | .ldxAbs _ => 0xAE#8
  | .ldxAby _ => 0xBE#8
  | .ldyImm _ => 0xA0#8
  | .ldyZp _ => 0xA4#8
  | .ldyZpx _ => 0xB4#8
  | .ldyAbs _ => 0xAC#8
  | .ldyAbx _ => 0xBC#8
  | .staZp _ => 0x85#8
  | .staZpx _ => 0x95#8
  | .staAbs _ => 0x8D#8
  | .staAbx _ => 0x9D#8
  | .staAby _ => 0x99#8
  | .staIzx _ => 0x81#8
  | .staIzy _ => 0x91#8
  | .stxZp _ => 0x86#8
  | .stxZpy _ => 0x96#8
  | .stxAbs _ => 0x8E#8
  | .styZp _ => 0x84#8
  | .styZpx _ => 0x94#8
  | .styAbs _ => 0x8C#8
  | .adcImm _ => 0x69#8
  | .adcZp _ => 0x65#8
  | .adcZpx _ => 0x75#8
  | .adcAbs _ => 0x6D#8
  | .adcAbx _ => 0x7D#8
  | .adcAby _ => 0x79#8
  | .adcIzx _ => 0x61#8
  | .adcIzy _ => 0x71#8
  | .sbcImm _ => 0xE9#8
  | .sbcZp _ => 0xE5#8
  | .sbcZpx _ => 0xF5#8
  | .sbcAbs _ => 0xED#8
  | .sbcAbx _ => 0xFD#8
  | .sbcAby _ => 0xF9#8
  | .sbcIzx _ => 0xE1#8
  | .sbcIzy _ => 0xF1#8
  | .cmpImm _ => 0xC9#8
  | .cmpZp _ => 0xC5#8
  | .cmpZpx _ => 0xD5#8
  | .cmpAbs _ => 0xCD#8
  | .cmpAbx _ => 0xDD#8
  | .cmpAby _ => 0xD9#8
  | .cmpIzx _ => 0xC1#8
  | .cmpIzy _ => 0xD1#8
  | .cpxImm _ => 0xE0#8
  | .cpxZp _ => 0xE4#8
  | .cpxAbs _ => 0xEC#8
  | .cpyImm _ => 0xC0#8
  | .cpyZp _ => 0xC4#8
  | .cpyAbs _ => 0xCC#8
  | .andImm _ => 0x29#8
  | .andZp _ => 0x25#8
  | .andZpx _ => 0x35#8
  | .andAbs _ => 0x2D#8
  | .andAbx _ => 0x3D#8
  | .andAby _ => 0x39#8
  | .andIzx _ => 0x21#8
  | .andIzy _ => 0x31#8
  | .bitZp _ => 0x24#8
  | .bitAbs _ => 0x2C#8
  | .eorImm _ => 0x49#8
  | .eorZp _ => 0x45#8
  | .eorZpx _ => 0x55#8
  | .eorAbs _ => 0x4D#8
  | .eorAbx _ => 0x5D#8
  | .eorAby _ => 0x59#8
  | .eorIzx _ => 0x41#8
  | .eorIzy _ => 0x51#8
  | .oraImm _ => 0x09#8
  | .oraZp _ => 0x05#8
  | .oraZpx _ => 0x15#8
  | .oraAbs _ => 0x0D#8
  | .oraAbx _ => 0x1D#8
  | .oraAby _ => 0x19#8
  | .oraIzx _ => 0x01#8
  | .oraIzy _ => 0x11#8
  | .aslZp _ => 0x06#8
  | .aslZpx _ => 0x16#8
  | .aslAbs _ => 0x0E#8
  | .aslAbx _ => 0x1E#8
  | .aslAcc => 0x0A#8
  | .lsrZp _ => 0x46#8
  | .lsrZpx _ => 0x56#8
  | .lsrAbs _ => 0x4E#8
  | .lsrAbx _ => 0x5E#8
  | .lsrAcc => 0x4A#8
  | .rolZp _ => 0x26#8
  | .rolZpx _ => 0x36#8
  | .rolAbs _ => 0x2E#8
  | .rolAbx _ => 0x3E#8
  | .rolAcc => 0x2A#8
  | .rorZp _ => 0x66#8
  | .rorZpx _ => 0x76#8
  | .rorAbs _ => 0x6E#8
  | .rorAbx _ => 0x7E#8
  | .rorAcc => 0x6A#8
  | .decZp _ => 0xC6#8
  | .decZpx _ => 0xD6#8
  | .decAbs _ => 0xCE#8
  | .decAbx _ => 0xDE#8
  | .incZp _ => 0xE6#8
  | .incZpx _ => 0xF6#8
  | .incAbs _ => 0xEE#8
  | .incAbx _ => 0xFE#8
  | .tax => 0xAA#8
  | .txa => 0x8A#8
  | .dex => 0xCA#8
  | .inx => 0xE8#8
  | .tay => 0xA8#8
  | .tya => 0x98#8
  | .dey => 0x88#8
  | .iny => 0xC8#8
  | .bpl _ => 0x10#8
  | .bmi _ => 0x30#8
  | .bvc _ => 0x50#8
  | .bvs _ => 0x70#8
  | .bcc _ => 0x90#8
  | .bcs _ => 0xB0#8
  | .bne _ => 0xD0#8
  | .beq _ => 0xF0#8
  | .jmpAbs _ => 0x4C#8
  | .jmpInd _ => 0x6C#8
  | .jsr _ => 0x20#8
  | .rts => 0x60#8
  | .clc => 0x18#8
  | .sec => 0x38#8
  | .cli => 0x58#8
  | .sei => 0x78#8
  | .clv => 0xB8#8
  | .cld => 0xD8#8
  | .sed => 0xF8#8
  | .txs => 0x9A#8
  | .tsx => 0xBA#8
  | .pha => 0x48#8
  | .pla => 0x68#8
  | .php => 0x08#8
  | .plp => 0x28#8
  | .brk => 0x00#8
  | .rti => 0x40#8
  | .nop => 0xEA#8

/-- The operand's bytes as they stand after the op code: a word is stored low byte first (R81, R83). -/
def Field.bytes : Field → List Byte
  | .none => []
  | .byte b => [b]
  | .word w => [lo w, hi w]

/-- The bytes of an instruction (R81). -/
def encode (i : Instr) : List Byte := i.opcode :: i.operand.bytes

/-- The three bytes the opcode table's numbering gives a number `w` of `nbits` bits: byte 0 is bits 7..0,
byte 1 is bits 15..8, byte 2 is bits 23..16; bits at and above `nbits` are 0. -/
def tableWordBytes (nbits w : Nat) : List Byte :=
  [BitVec.ofNat 8 (w % 2 ^ nbits), BitVec.ofNat 8 (w % 2 ^ nbits / 256),
   BitVec.ofNat 8 (w % 2 ^ nbits / 65536)]

/-- The instruction the decoder reads from a row's bits, operand bytes beyond `nbits` being 0. -/
def decodeTableWord (nbits w : Nat) : Option Instr :=
  match decode (tableWordBytes nbits w) with
  | .ok (i, _) => some i
  | .error _ => none

end Sys2Proof
end

