-- ==== Sys2Proof/Machine/State.lean ====
section
/-! DEFINITION. The state of the machine as plain data (spec 10_state.md R20 to R42), the reasons a step
can stop, and the machine right after reset (R40). -/

namespace Sys2Proof.Machine

/-- Memory: the listed (address, byte) pairs, addresses strictly rising, no pair that holds what an unlisted
address reads as (R38, R50). -/
abbrev Memory := List Host.Cell

/-- What the platform makes of an address (R57). -/
inductive RegionKind where
  /-- a read returns the last byte written -/
  | ram
  /-- a read returns the byte of the image; a write has no effect -/
  | rom
  /-- a device whose reads or writes have side effects: R69 refuses the forms that may access it more often
  than the rules list -/
  | io
  /-- a device that the platform says takes no harm from accesses the rules do not list (U7's premise): every
  form runs -/
  | ioHarmless
  /-- a read returns a free byte; a write has no effect -/
  | unmapped
  deriving DecidableEq, Repr

/-- One record of the platform's memory map: `size` addresses from `base` on are of kind `kind` (R57).
Of two records that overlap the earlier one of the list decides. -/
structure Region where
  base : Nat
  size : Nat
  kind : RegionKind
  deriving DecidableEq, Repr

/-- An access a device has seen (R57, R154). -/
inductive DeviceAccess where
  /-- a read of `addr` that returned `value` -/
  | read (addr : Word) (value : Byte)
  /-- a write of `value` to `addr` -/
  | write (addr : Word) (value : Byte)
  deriving DecidableEq, Repr

/-- What the platform does to the processor's inputs at one boundary (R39, R221): the level of the IRQ
line, whether an NMI is requested (an edge), and the level of the reset request. -/
structure Inputs where
  irqLine : Bool
  nmiEdge : Bool
  resetReq : Bool
  deriving DecidableEq, Repr

/-- The state (R20 to R39), between two steps. -/
structure State where
  /-- A, the accumulator (R20) -/
  a : Byte
  /-- X, an index register (R21) -/
  x : Byte
  /-- Y, an index register (R22) -/
  y : Byte
  /-- S, the stack pointer: low byte of the next free stack address (R23, R59) -/
  sp : Byte
  /-- PC, the address of the op code of the next instruction (R24) -/
  pc : Word
  /-- N, negative (R26) -/
  fN : Bool
  /-- V, overflow (R27) -/
  fV : Bool
  /-- D, decimal (R29) -/
  fD : Bool
  /-- I, interrupt disable (R30) -/
  fI : Bool
  /-- Z, zero (R31) -/
  fZ : Bool
  /-- C, carry (R32) -/
  fC : Bool
  /-- `I_before`: what I was before the instruction just completed (R39) -/
  iBefore : Bool
  /-- `nmi_pending`: an NMI request latched and not yet taken (R39) -/
  nmiPending : Bool
  /-- `irq_line`: the level of the maskable request at the boundary (R39) -/
  irqLine : Bool
  /-- `reset_req`: the level of the reset request at the boundary (R39) -/
  resetReq : Bool
  /-- the MODEL's own field: what the platform does to the inputs at the coming boundaries (entry 8) -/
  inputs : List Inputs
  /-- memory (R38) -/
  mem : Memory
  /-- the platform's memory map, which no step changes (R57, entry 4) -/
  regions : List Region
  /-- `VEC_NMI`, a parameter of the platform, which no step changes (R5, R223, entry 11) -/
  vecNmi : Word
  /-- `VEC_RESET`, a parameter of the platform, which no step changes (R5, R223, entry 11) -/
  vecReset : Word
  /-- `VEC_IRQ`, of IRQ and BRK, a parameter of the platform, which no step changes (R5, R223, entry 11) -/
  vecIrq : Word
  /-- the MODEL's own field: the accesses devices have seen, newest first (entry 6) -/
  devLog : List DeviceAccess
  /-- the MODEL's own field: how many free values have been taken (R10, entry 3) -/
  draws : Nat
  deriving DecidableEq, Repr

/-- Why the machine stops with a fault. -/
inductive Fault where
  /-- `raise IllegalOpcode(opc, a)` (R99, U1): the op code byte `opc` at `addr` is one of the 105 the spec
  gives no meaning. Raised by the fetch in `step`. Safe: the spec asks for this fault, and the hardware
  goes on in some way the spec does not give. -/
  | illegalOpcode (opc : Byte) (addr : Word)
  deriving DecidableEq, Repr

/-- Why an instruction is refused. -/
inductive Refusal where
  /-- The instruction named has no meaning yet. Raised by an arm of `exec` only. Safe: nothing can be
  proved of such a step. No arm raises it in this model. -/
  | notModelled (mnemonic : String)
  /-- A form other than a plain read or write in Zero Page or Absolute mode addresses an I/O region with side
  effects at `addr`, or would on the part's un-carried address; or a taken branch to another page has the
  un-carried address `addr` in such a region (R69, U7): the spec does not say what the device makes of the
  part's extra accesses. Raised by the shared operations of Machine/Operands.lean and by JMP Indirect. Safe. -/
  | deviceExtraAccess (addr : Word)
  deriving DecidableEq, Repr

/-- How a step or an instruction ends. -/
abbrev Out := Host.Outcome State Fault Refusal

/-- The machine right after reset (R40). I, I_before, nmi_pending and PC are the spec's; PC is the word at
`VEC_RESET` of the memory below (`State.reset_pc` in Sys2Proof/Laws/State.lean); the vector addresses are the
defaults of R5. DESIGN CHOICE (entries 1,
2, 3, 4, 6 and 8), unsafe: the zeros of A, X, Y, S, N, V, D, Z and C and of the memory, which the spec
leaves as draws, and the empty map, script, log and counter. -/
def State.reset : State :=
  { a := 0, x := 0, y := 0, sp := 0, pc := 0
    fN := false, fV := false, fD := false, fI := true, fZ := false, fC := false
    iBefore := true, nmiPending := false, irqLine := false, resetReq := false
    inputs := [], mem := [], regions := []
    vecNmi := Config.vecNmi, vecReset := Config.vecReset, vecIrq := Config.vecIrq
    devLog := [], draws := 0 }

end Sys2Proof.Machine
end

