-- ==== Sys2Proof/Machine/Ops.lean ====
section
/-! DEFINITION. The named operations on registers and memory (spec 20_memory.md), free values, the pushed
status byte, and taking an exception and returning from one (60_exceptions.md R225, R231). -/

namespace Sys2Proof.Machine

/-! ### Widths -/

/-- `zext_16(b)` (R8). -/
def zext16 (b : Byte) : Word := BitVec.ofNat 16 b.toNat

/-- `sext_16(b)` (R8): `b` below $80, else `$FF00 + b`. -/
def sext16 (b : Byte) : Word := BitVec.ofInt 16 b.toInt

/-! ### Memory contents -/

/-- What an address that memory does not list reads as. DESIGN CHOICE (entry 2): the spec draws every RAM
byte at power-up (R40, R251). Unsafe for claims about the state after reset. -/
def Memory.unlisted : Byte := 0

/-- The byte at an address (R50, R52). -/
def Memory.read (m : Memory) (a : Word) : Byte := (m.lookup a.toNat).getD Memory.unlisted

/-- The cells of a memory that do not stand at address `k`. -/
def Memory.erase (m : Memory) (k : Nat) : Memory := m.filter (fun c => c.1 != k)

/-- The cell `(k, b)` put in its place among cells of rising addresses. -/
def Memory.insert : Memory → Nat → Byte → Memory
  | [], k, b => [(k, b)]
  | c :: m, k, b => if k < c.1 then (k, b) :: c :: m else c :: Memory.insert m k b

/-- Memory with `b` at address `k`, in canonical form: a byte that an unlisted address reads as is not
listed. -/
def Memory.writeAt (m : Memory) (k : Nat) (b : Byte) : Memory :=
  if b = Memory.unlisted then Memory.erase m k else Memory.insert (Memory.erase m k) k b

/-- `M[a] <- b` on the contents alone (R52). -/
def Memory.write (m : Memory) (a : Word) (b : Byte) : Memory := Memory.writeAt m a.toNat b

/-- The canonical form from address `k` on: rising addresses below 65536, no cell that holds what an
unlisted address reads as. -/
def Memory.wfFrom : Nat → Memory → Bool
  | _, [] => true
  | k, (k', b) :: m => decide (k ≤ k') && decide (k' < 65536) && b != Memory.unlisted && Memory.wfFrom (k' + 1) m

/-- The canonical form of memory: equal memories are equal data. -/
def Memory.wf (m : Memory) : Bool := Memory.wfFrom 0 m

/-! ### Free values -/

/-- `draw(8)` (R10): a free byte, and the state with one more draw taken. -/
def State.drawByte (s : State) : Byte × State :=
  (Config.freeByte s.draws, { s with draws := s.draws + 1 })

/-- `draw(1)` (R10): a free bit, and the state with one more draw taken. -/
def State.drawBit (s : State) : Bool × State :=
  (Config.freeBit s.draws, { s with draws := s.draws + 1 })

/-! ### Regions and accesses -/

/-- The kind the map's first record for an address gives it; RAM where no record holds the address
(R57; DESIGN CHOICE, entry 4). -/
def mapKind : List Region → Nat → RegionKind
  | [], _ => .ram
  | r :: rs, k => if r.base ≤ k ∧ k < r.base + r.size then r.kind else mapKind rs k

/-- What an address is (R57). Pages 0 and 1 are RAM whatever the map says: the model requires it
(R58, D16; entry 4). -/
def State.kindOf (s : State) (a : Word) : RegionKind :=
  if a.toNat < 0x200 then .ram else mapKind s.regions a.toNat

/-- `M[a]` (R52, R57): the byte in RAM and ROM; a free byte that the device's log records in an I/O
region; a free byte at an unmapped address. -/
def State.readByte (s : State) (a : Word) : Byte × State :=
  match s.kindOf a with
  | .ram => (s.mem.read a, s)
  | .rom => (s.mem.read a, s)
  | .io => (s.drawByte.1, { s.drawByte.2 with devLog := .read a s.drawByte.1 :: s.devLog })
  | .ioHarmless => (s.drawByte.1, { s.drawByte.2 with devLog := .read a s.drawByte.1 :: s.devLog })
  | .unmapped => s.drawByte

/-- `M[a] <- b` (R52, R57): RAM takes the byte; the device's log records it in an I/O region; ROM and an
unmapped address ignore it (the spec's default for ROM, entry 5). -/
def State.writeByte (s : State) (a : Word) (b : Byte) : State :=
  match s.kindOf a with
  | .ram => { s with mem := s.mem.write a b }
  | .rom => s
  | .io => { s with devLog := .write a b :: s.devLog }
  | .ioHarmless => { s with devLog := .write a b :: s.devLog }
  | .unmapped => s

/-- `Read16(a)` (R53, R55): the byte at `a` is the low byte and is read first, the one at `a + 1` mod
65536 is the high byte. -/
def State.readWord (s : State) (a : Word) : Word × State :=
  (join ((s.readByte a).2.readByte (a + 1#16)).1 (s.readByte a).1, ((s.readByte a).2.readByte (a + 1#16)).2)

/-- `Read16zp(z)` (R56): both bytes lie in page 0, which is RAM, so nothing but the word comes of it. -/
def State.readZpWord (s : State) (z : Byte) : Word :=
  join (s.mem.read (zext16 (z + 1#8))) (s.mem.read (zext16 z))

/-! ### The stack -/

/-- `$0100 + S` (R23, R59). -/
def stackAddr (sp : Byte) : Word := 0x0100#16 + zext16 sp

/-- `Push(b)` (R59, R61): store at `$0100 + S`, then `S - 1` mod 256. -/
def State.push (s : State) (b : Byte) : State :=
  { s.writeByte (stackAddr s.sp) b with sp := s.sp - 1#8 }

/-- `Pull()` (R60, R61): `S + 1` mod 256, then the byte at `$0100 + S`. -/
def State.pull (s : State) : Byte × State :=
  ({ s with sp := s.sp + 1#8 } : State).readByte (stackAddr (s.sp + 1#8))

/-- A word pushed high byte first (R53, R61). -/
def State.pushWord (s : State) (w : Word) : State := (s.push (hi w)).push (lo w)

/-- A word pulled low byte first (R53, R61). -/
def State.pullWord (s : State) : Word × State :=
  (join s.pull.2.pull.1 s.pull.1, s.pull.2.pull.2)

/-! ### The status byte -/

/-- `Pbyte(b)` (R34): N, V, 1, b, D, I, Z, C from bit 7 down. -/
def State.statusByte (s : State) (brk : Bool) : Byte :=
  BitVec.ofNat 8 (s.fN.toNat * 128 + s.fV.toNat * 64 + 32 + brk.toNat * 16 + s.fD.toNat * 8
    + s.fI.toNat * 4 + s.fZ.toNat * 2 + s.fC.toNat)

/-- `setP(v)` (R35): the six stored flags from a byte; bits 5 and 4 are ignored. -/
def State.setStatus (s : State) (v : Byte) : State :=
  { s with
    fN := v.getLsbD 7, fV := v.getLsbD 6, fD := v.getLsbD 3
    fI := v.getLsbD 2, fZ := v.getLsbD 1, fC := v.getLsbD 0 }

/-! ### The program counter and the end of an instruction -/

/-- `pc <- (a + LEN) mod 65536` (R84), and `I_before` takes the I the instruction started with (R39). -/
def State.advance (s : State) (len : Nat) : State :=
  { s with pc := s.pc + BitVec.ofNat 16 len, iBefore := s.fI }

/-- `pc <- target`. -/
def State.jump (s : State) (target : Word) : State := { s with pc := target }

/-! ### Exceptions -/

/-- `Enter(vec, b)` (R225) with the pushed address `ret`: PC high, PC low, then the status byte with bit 4 =
`brk` go on the stack; I becomes 1, and `I_before` with it (R39); PC is loaded from the vector. IRQ, NMI
and BRK (R210) all enter through it. -/
def State.enter (s : State) (ret vec : Word) (brk : Bool) : State :=
  let pushed := (s.pushWord ret).push (s.statusByte brk)
  let masked := { pushed with fI := true, iBefore := true }
  let v := masked.readWord vec
  v.2.jump v.1

/-- IRQ entry (R226). -/
def State.irqEntry (s : State) : State := s.enter s.pc s.vecIrq false

/-- NMI entry (R227): the latched request is cleared first. -/
def State.nmiEntry (s : State) : State :=
  ({ s with nmiPending := false } : State).enter s.pc s.vecNmi false

/-- Return from an exception (R211, R231): the status byte, then PC low, then PC high; only the new I counts
at the boundary that follows (R39, R224). -/
def State.returnFromException (s : State) : State :=
  let restored := s.pull.2.setStatus s.pull.1
  let ret := restored.pullWord
  { ret.2 with pc := ret.1, iBefore := ret.2.fI }

/-- The reset step (R250): I and `I_before` 1, no NMI pending, PC from the reset vector; A, X, Y, S and the
other flags are draws; nothing is pushed or written. -/
def State.resetEntry (s : State) : State :=
  let v := ({ s with fI := true, iBefore := true, nmiPending := false } : State).readWord s.vecReset
  let d := v.2.draws
  { v.2 with
    pc := v.1
    a := Config.freeByte d, x := Config.freeByte (d + 1)
    y := Config.freeByte (d + 2), sp := Config.freeByte (d + 3)
    fN := Config.freeBit (d + 4), fV := Config.freeBit (d + 5), fZ := Config.freeBit (d + 6)
    fC := Config.freeBit (d + 7), fD := Config.freeBit (d + 8)
    draws := d + 9 }

end Sys2Proof.Machine
end

