-- ==== Sys2Proof/Machine/Flags.lean ====
section
/-! DEFINITION. Flag computations and the arithmetic they come from (spec 10_state.md R33,
41_arithmetic.md R130 to R136, 43_shift_rotate.md). Each operation is computed on integers and narrowed
at the end, as the spec writes it. -/

namespace Sys2Proof.Machine

/-- `setNZ(v)` (R33): N is bit 7 of `v`, Z says that `v` is zero. -/
def State.setNZ (s : State) (v : Byte) : State := { s with fN := v.getLsbD 7, fZ := v == 0#8 }

/-- What a binary addition or subtraction gives: the byte, the carry and the overflow. -/
structure AluOut where
  result : Byte
  carry : Bool
  overflow : Bool
  deriving DecidableEq, Repr

/-- Whether a number lies outside the signed range -128..127 (R27, R130). -/
def outsideSigned (t : Int) : Bool := decide (t < -128) || decide (127 < t)

/-- Binary addition with carry (R130). -/
def addBinary (a m : Byte) (c : Bool) : AluOut :=
  { result := BitVec.ofNat 8 (a.toNat + m.toNat + c.toNat)
    carry := decide (255 < a.toNat + m.toNat + c.toNat)
    overflow := outsideSigned (a.toInt + m.toInt + c.toNat) }

/-- Binary subtraction with inverse borrow (R131): `1 - C` is the borrow in. -/
def subBinary (a m : Byte) (c : Bool) : AluOut :=
  { result := BitVec.ofInt 8 ((a.toNat : Int) - m.toNat - (1 - c.toNat))
    carry := decide (0 ≤ (a.toNat : Int) - m.toNat - (1 - c.toNat))
    overflow := outsideSigned (a.toInt - m.toInt - (1 - c.toNat)) }

/-- Valid packed BCD (R132): both digits at most 9. -/
def bcdValid (b : Byte) : Bool := decide (b.toNat / 16 ≤ 9) && decide (b.toNat % 16 ≤ 9)

/-- `dec(b)` (R132): the value of a packed BCD byte. -/
def bcdValue (b : Byte) : Nat := 10 * (b.toNat / 16) + b.toNat % 16

/-- `bcd(n)` (R132) for `n` of 0..99. -/
def bcdByte (n : Nat) : Byte := BitVec.ofNat 8 (n / 10 * 16 + n % 10)

/-- Decimal addition of valid packed BCD bytes (R132): the byte and the carry. -/
def addDecimal (a m : Byte) (c : Bool) : Byte × Bool :=
  let n := bcdValue a + bcdValue m + c.toNat
  (bcdByte (n % 100), decide (100 ≤ n))

/-- Decimal subtraction of valid packed BCD bytes (R133): the byte and the carry (0 says borrow). -/
def subDecimal (a m : Byte) (c : Bool) : Byte × Bool :=
  let n : Int := (bcdValue a : Int) - bcdValue m - (1 - c.toNat)
  (bcdByte (n % 100).toNat, decide (0 ≤ n))

/-- N, V and Z drawn (R132, R133): three free bits. -/
def State.drawNVZ (s : State) : State :=
  { s with
    fN := Config.freeBit s.draws, fV := Config.freeBit (s.draws + 1), fZ := Config.freeBit (s.draws + 2)
    draws := s.draws + 3 }

/-- A and C drawn (R132, R133, operands that are not packed BCD): a free byte and a free bit. -/
def State.drawAC (s : State) : State :=
  { s with a := Config.freeByte s.draws, fC := Config.freeBit (s.draws + 1), draws := s.draws + 2 }

/-- The end of a binary ADC or SBC: A, N, V, Z, C (R130, R131). -/
def State.setAlu (s : State) (r : AluOut) : State :=
  ({ s with a := r.result, fC := r.carry, fV := r.overflow } : State).setNZ r.result

/-- The end of a decimal ADC or SBC (R132, R133): A and C exact on valid packed BCD operands and drawn on
others; N, V and Z drawn. -/
def State.setDecimal (s : State) (m : Byte) (r : Byte × Bool) : State :=
  if bcdValid s.a && bcdValid m then ({ s with a := r.1, fC := r.2 } : State).drawNVZ
  else s.drawAC.drawNVZ

/-- ADC with the operand `m` (R130, R132): D selects. -/
def State.adc (m : Byte) (s : State) : State :=
  if s.fD then s.setDecimal m (addDecimal s.a m s.fC) else s.setAlu (addBinary s.a m s.fC)

/-- SBC with the operand `m` (R131, R133): D selects. -/
def State.sbc (m : Byte) (s : State) : State :=
  if s.fD then s.setDecimal m (subDecimal s.a m s.fC) else s.setAlu (subBinary s.a m s.fC)

/-- A compare of the register value `r` with the operand `m` (R134 to R136): flags of `r - m`, no borrow
in, D not read, V untouched. -/
def State.compare (r m : Byte) (s : State) : State :=
  { s with fC := decide (m.toNat ≤ r.toNat), fZ := r == m, fN := (r - m).getLsbD 7 }

/-- The flags of BIT (R141): Z of `A AND m`, N and V from bits 7 and 6 of `m`. -/
def State.bitTest (m : Byte) (s : State) : State :=
  { s with fZ := (s.a &&& m) == 0#8, fN := m.getLsbD 7, fV := m.getLsbD 6 }

/-- The byte a shift or rotate gives and the bit that goes into C (R150 to R153). -/
structure ShiftOut where
  result : Byte
  carry : Bool
  deriving DecidableEq, Repr

/-- ASL (R150). -/
def shiftLeft (old : Byte) : ShiftOut :=
  { result := BitVec.ofNat 8 (old.toNat * 2), carry := old.getLsbD 7 }

/-- LSR (R151). -/
def shiftRight (old : Byte) : ShiftOut :=
  { result := BitVec.ofNat 8 (old.toNat / 2), carry := old.getLsbD 0 }

/-- ROL (R152), with the carry of before. -/
def rotateLeft (c : Bool) (old : Byte) : ShiftOut :=
  { result := BitVec.ofNat 8 (old.toNat * 2 % 256 + c.toNat), carry := old.getLsbD 7 }

/-- ROR (R153), with the carry of before. -/
def rotateRight (c : Bool) (old : Byte) : ShiftOut :=
  { result := BitVec.ofNat 8 (old.toNat / 2 + 128 * c.toNat), carry := old.getLsbD 0 }

/-- The flags of a shift or rotate: C, then N and Z of the byte stored (R150 to R154). -/
def State.setShift (s : State) (r : ShiftOut) : State := ({ s with fC := r.carry } : State).setNZ r.result

end Sys2Proof.Machine
end

