-- ==== Sys2Proof/Machine/Operands.lean ====
section
/-! DEFINITION. The operand forms (spec 30_encoding.md R86 to R97) and the shapes an instruction's meaning
has over them: read an operand, write one, read-modify-write, branch, implied (R120, R154, R170). -/

namespace Sys2Proof.Machine

/-- The forms whose operand is a byte of memory (R88 to R95). -/
inductive MemForm where
  | zp (op8 : Byte)
  | zpx (op8 : Byte)
  | zpy (op8 : Byte)
  | abs (op16 : Word)
  | abx (op16 : Word)
  | aby (op16 : Word)
  | izx (op8 : Byte)
  | izy (op8 : Byte)
  deriving DecidableEq, Repr

/-- The memory form of an instruction that has a byte of memory as its operand; none for an immediate, an
implied, an accumulator or a relative one, and for JMP and JSR, whose operand is a target (R91, R97). -/
def Instr.memForm (i : Instr) : Option MemForm :=
  if i.mnemonic = .jmp ∨ i.mnemonic = .jsr then none
  else
    match i.mode, i.operand with
    | .zp, .byte b => some (.zp b)
    | .zpx, .byte b => some (.zpx b)
    | .zpy, .byte b => some (.zpy b)
    | .izx, .byte b => some (.izx b)
    | .izy, .byte b => some (.izy b)
    | .abs, .word w => some (.abs w)
    | .abx, .word w => some (.abx w)
    | .aby, .word w => some (.aby w)
    | _, _ => none

/-- Length of an instruction in the form (R82). -/
def MemForm.length : MemForm → Nat
  | .zp _ => 2 | .zpx _ => 2 | .zpy _ => 2 | .izx _ => 2 | .izy _ => 2
  | .abs _ => 3 | .abx _ => 3 | .aby _ => 3

/-- `EA`, the effective address (R88 to R95). -/
def MemForm.ea (f : MemForm) (s : State) : Word :=
  match f with
  | .zp op8 => zext16 op8
  | .zpx op8 => zext16 (op8 + s.x)
  | .zpy op8 => zext16 (op8 + s.y)
  | .abs op16 => op16
  | .abx op16 => op16 + zext16 s.x
  | .aby op16 => op16 + zext16 s.y
  | .izx op8 => s.readZpWord (op8 + s.x)
  | .izy op8 => s.readZpWord op8 + zext16 s.y

/-- The address before the index is added, for the forms that add one to 16 bits (R92, R93, R95). -/
def MemForm.base (f : MemForm) (s : State) : Word :=
  match f with
  | .abx op16 => op16
  | .aby op16 => op16
  | .izy op8 => s.readZpWord op8
  | .zp op8 => MemForm.ea (.zp op8) s
  | .zpx op8 => MemForm.ea (.zpx op8) s
  | .zpy op8 => MemForm.ea (.zpy op8) s
  | .abs op16 => MemForm.ea (.abs op16) s
  | .izx op8 => MemForm.ea (.izx op8) s

/-- "Page boundary crossed": `hi(EA) != hi(base)` (R92, R93, R95, R264). -/
def MemForm.crosses (f : MemForm) (s : State) : Bool := hi (f.ea s) != hi (f.base s)

/-- The address with the un-carried high byte, which the part may access besides `EA` (R69). -/
def MemForm.uncarried (f : MemForm) (s : State) : Word := join (hi (f.base s)) (lo (f.ea s))

/-- The plain modes, in which a read or a write makes no extra access (R69): Zero Page and Absolute. -/
def MemForm.plain : MemForm → Bool
  | .zp _ => true | .abs _ => true
  | .zpx _ => false | .zpy _ => false | .abx _ => false | .aby _ => false | .izx _ => false | .izy _ => false

/-- Whether the effective address or the un-carried address lies in an I/O region with side effects (R69). -/
def MemForm.hitsDevice (f : MemForm) (s : State) : Bool :=
  s.kindOf (f.ea s) == .io || s.kindOf (f.uncarried s) == .io

/-- Whether a read or a write in the form is refused (R69): it is not plain and it hits a device. -/
def MemForm.refuses (f : MemForm) (s : State) : Bool := !f.plain && f.hitsDevice s

/-- An instruction that reads its operand from memory (R120): one data read, then `k` of the byte read. -/
def readOp (k : Byte → State → State) (f : MemForm) (s : State) : Out :=
  if f.refuses s then .refused (.deviceExtraAccess (f.ea s))
  else
    let r := (s.advance f.length).readByte (f.ea s)
    .next (k r.1 r.2)

/-- An instruction whose operand is the byte in the instruction itself (R87). -/
def immOp (k : Byte → State → State) (v : Byte) (s : State) : Out := .next (k v (s.advance 2))

/-- An instruction that stores a byte (R120): one data write, no data read. -/
def storeOp (v : State → Byte) (f : MemForm) (s : State) : Out :=
  if f.refuses s then .refused (.deviceExtraAccess (f.ea s))
  else .next ((s.advance f.length).writeByte (f.ea s) (v s))

/-- A read-modify-write instruction on memory (R154): one data read, one data write of the byte `g` makes
of it, at the same address, then the flags `k` makes of both. No such form is plain (R69). -/
def modifyOp {α : Type} (g : State → Byte → α) (byte : α → Byte) (k : State → α → State) (f : MemForm)
    (s : State) : Out :=
  if f.hitsDevice s then .refused (.deviceExtraAccess (f.ea s))
  else
    let r := (s.advance f.length).readByte (f.ea s)
    let out := g s r.1
    .next (k (r.2.writeByte (f.ea s) (byte out)) out)

/-- A shift or rotate of a byte of memory (R150 to R154). -/
def shiftMem (g : Bool → Byte → ShiftOut) (f : MemForm) (s : State) : Out :=
  modifyOp (fun s old => g s.fC old) ShiftOut.result State.setShift f s

/-- A shift or rotate of A (R86, R150 to R153). -/
def shiftAcc (g : Bool → Byte → ShiftOut) (s : State) : Out :=
  let out := g s.fC s.a
  .next (({ s.advance 1 with a := out.result } : State).setShift out)

/-- An increment or decrement of a byte of memory by `d` (R160, R161). -/
def stepMem (d : Byte) (f : MemForm) (s : State) : Out :=
  modifyOp (fun _ old => old + d) id State.setNZ f s

/-- An instruction of one byte with no operand (R85). -/
def impliedOp (k : State → State) (s : State) : Out := .next (k (s.advance 1))

/-- `target` of a relative branch at `a` (R96). -/
def branchTarget (a : Word) (disp : Byte) : Word := a + 2#16 + sext16 disp

/-- The address of a branch's target with the un-carried high byte, that of the next instruction's address
`a + 2` (R69). -/
def branchUncarried (a : Word) (disp : Byte) : Word := join (hi (a + 2#16)) (lo (branchTarget a disp))

/-- Whether a taken branch leaves the page of the next instruction (R170) and its un-carried address lies in an
I/O region with side effects (R69). DEDUCED (entry 7): that R69 reaches branches, and reaches them there alone. -/
def State.branchHitsDevice (s : State) (disp : Byte) : Bool :=
  hi (branchTarget s.pc disp) != hi (s.pc + 2#16) && s.kindOf (branchUncarried s.pc disp) == .io

/-- A conditional branch (R170). A taken one whose un-carried address is a device's is refused (R69). DESIGN
CHOICE (entry 7): the part's extra fetch at `a + 2` of a taken branch refuses nothing, as no extra fetch at an
address of the instruction stream does. -/
def branchOp (cond : State → Bool) (disp : Byte) (s : State) : Out :=
  if cond s then
    if s.branchHitsDevice disp then .refused (.deviceExtraAccess (branchUncarried s.pc disp))
    else .next ((s.advance 2).jump (branchTarget s.pc disp))
  else .next (s.advance 2)

/-- A takes the byte, N and Z follow it (R121, R163, R167, R203). -/
def State.loadA (v : Byte) (s : State) : State := ({ s with a := v } : State).setNZ v

/-- X takes the byte, N and Z follow it (R122, R162, R201). -/
def State.loadX (v : Byte) (s : State) : State := ({ s with x := v } : State).setNZ v

/-- Y takes the byte, N and Z follow it (R123, R166). -/
def State.loadY (v : Byte) (s : State) : State := ({ s with y := v } : State).setNZ v

end Sys2Proof.Machine
end

