-- ==== Sys2Proof/Machine/Arithmetic.lean ====
section
/-! DEFINITION. Arithmetic and compare instructions (spec 41_arithmetic.md R130 to R138). -/

namespace Sys2Proof.Machine

/-- A compared with the operand (R134). -/
def State.cmpA (m : Byte) (s : State) : State := s.compare s.a m

/-- X compared with the operand (R135). -/
def State.cmpX (m : Byte) (s : State) : State := s.compare s.x m

/-- Y compared with the operand (R136). -/
def State.cmpY (m : Byte) (s : State) : State := s.compare s.y m

/-- ADC, Immediate, $69 (R130, R87). -/
def execAdcImm (v : Byte) (s : State) : Out := immOp State.adc v s

/-- ADC, Zero Page, $65 (R130, R88). -/
def execAdcZp (zp : Byte) (s : State) : Out := readOp State.adc (.zp zp) s

/-- ADC, Zero Page,X, $75 (R130, R89). -/
def execAdcZpx (zp : Byte) (s : State) : Out := readOp State.adc (.zpx zp) s

/-- ADC, Absolute, $6D (R130, R91). -/
def execAdcAbs (w : Word) (s : State) : Out := readOp State.adc (.abs w) s

/-- ADC, Absolute,X, $7D (R130, R92). -/
def execAdcAbx (w : Word) (s : State) : Out := readOp State.adc (.abx w) s

/-- ADC, Absolute,Y, $79 (R130, R93). -/
def execAdcAby (w : Word) (s : State) : Out := readOp State.adc (.aby w) s

/-- ADC, Indirect,X, $61 (R130, R94). -/
def execAdcIzx (zp : Byte) (s : State) : Out := readOp State.adc (.izx zp) s

/-- ADC, Indirect,Y, $71 (R130, R95). -/
def execAdcIzy (zp : Byte) (s : State) : Out := readOp State.adc (.izy zp) s

/-- SBC, Immediate, $E9 (R131, R87). -/
def execSbcImm (v : Byte) (s : State) : Out := immOp State.sbc v s

/-- SBC, Zero Page, $E5 (R131, R88). -/
def execSbcZp (zp : Byte) (s : State) : Out := readOp State.sbc (.zp zp) s

/-- SBC, Zero Page,X, $F5 (R131, R89). -/
def execSbcZpx (zp : Byte) (s : State) : Out := readOp State.sbc (.zpx zp) s

/-- SBC, Absolute, $ED (R131, R91). -/
def execSbcAbs (w : Word) (s : State) : Out := readOp State.sbc (.abs w) s

/-- SBC, Absolute,X, $FD (R131, R92). -/
def execSbcAbx (w : Word) (s : State) : Out := readOp State.sbc (.abx w) s

/-- SBC, Absolute,Y, $F9 (R131, R93). -/
def execSbcAby (w : Word) (s : State) : Out := readOp State.sbc (.aby w) s

/-- SBC, Indirect,X, $E1 (R131, R94). -/
def execSbcIzx (zp : Byte) (s : State) : Out := readOp State.sbc (.izx zp) s

/-- SBC, Indirect,Y, $F1 (R131, R95). -/
def execSbcIzy (zp : Byte) (s : State) : Out := readOp State.sbc (.izy zp) s

/-- CMP, Immediate, $C9 (R134, R87). -/
def execCmpImm (v : Byte) (s : State) : Out := immOp State.cmpA v s

/-- CMP, Zero Page, $C5 (R134, R88). -/
def execCmpZp (zp : Byte) (s : State) : Out := readOp State.cmpA (.zp zp) s

/-- CMP, Zero Page,X, $D5 (R134, R89). -/
def execCmpZpx (zp : Byte) (s : State) : Out := readOp State.cmpA (.zpx zp) s

/-- CMP, Absolute, $CD (R134, R91). -/
def execCmpAbs (w : Word) (s : State) : Out := readOp State.cmpA (.abs w) s

/-- CMP, Absolute,X, $DD (R134, R92). -/
def execCmpAbx (w : Word) (s : State) : Out := readOp State.cmpA (.abx w) s

/-- CMP, Absolute,Y, $D9 (R134, R93). -/
def execCmpAby (w : Word) (s : State) : Out := readOp State.cmpA (.aby w) s

/-- CMP, Indirect,X, $C1 (R134, R94). -/
def execCmpIzx (zp : Byte) (s : State) : Out := readOp State.cmpA (.izx zp) s

/-- CMP, Indirect,Y, $D1 (R134, R95). -/
def execCmpIzy (zp : Byte) (s : State) : Out := readOp State.cmpA (.izy zp) s

/-- CPX, Immediate, $E0 (R135, R87). -/
def execCpxImm (v : Byte) (s : State) : Out := immOp State.cmpX v s

/-- CPX, Zero Page, $E4 (R135, R88). -/
def execCpxZp (zp : Byte) (s : State) : Out := readOp State.cmpX (.zp zp) s

/-- CPX, Absolute, $EC (R135, R91). -/
def execCpxAbs (w : Word) (s : State) : Out := readOp State.cmpX (.abs w) s

/-- CPY, Immediate, $C0 (R136, R87). -/
def execCpyImm (v : Byte) (s : State) : Out := immOp State.cmpY v s

/-- CPY, Zero Page, $C4 (R136, R88). -/
def execCpyZp (zp : Byte) (s : State) : Out := readOp State.cmpY (.zp zp) s

/-- CPY, Absolute, $CC (R136, R91). -/
def execCpyAbs (w : Word) (s : State) : Out := readOp State.cmpY (.abs w) s

end Sys2Proof.Machine
end

