-- ==== Sys2Proof/Machine/Branch.lean ====
section
/-! DEFINITION. Conditional branches (spec 45_branch.md R170 to R179). -/

namespace Sys2Proof.Machine

/-- BPL, relative, $10 (R171, R96): taken when N = 0. -/
def execBpl (disp : Byte) (s : State) : Out := branchOp (fun s => !s.fN) disp s

/-- BMI, relative, $30 (R172, R96): taken when N = 1. -/
def execBmi (disp : Byte) (s : State) : Out := branchOp (fun s => s.fN) disp s

/-- BVC, relative, $50 (R173, R96): taken when V = 0. -/
def execBvc (disp : Byte) (s : State) : Out := branchOp (fun s => !s.fV) disp s

/-- BVS, relative, $70 (R174, R96): taken when V = 1. -/
def execBvs (disp : Byte) (s : State) : Out := branchOp (fun s => s.fV) disp s

/-- BCC, relative, $90 (R175, R96): taken when C = 0. -/
def execBcc (disp : Byte) (s : State) : Out := branchOp (fun s => !s.fC) disp s

/-- BCS, relative, $B0 (R176, R96): taken when C = 1. -/
def execBcs (disp : Byte) (s : State) : Out := branchOp (fun s => s.fC) disp s

/-- BNE, relative, $D0 (R177, R96): taken when Z = 0. -/
def execBne (disp : Byte) (s : State) : Out := branchOp (fun s => !s.fZ) disp s

/-- BEQ, relative, $F0 (R178, R96): taken when Z = 1. -/
def execBeq (disp : Byte) (s : State) : Out := branchOp (fun s => s.fZ) disp s

end Sys2Proof.Machine
end

