-- ==== Sys2Proof/Machine/FlagOps.lean ====
section
/-! DEFINITION. Flag instructions (spec 47_flag.md R190 to R196). `State.advance` has put the old I into `I_before`,
so CLI and SEI leave the two different (R39, R224). -/

namespace Sys2Proof.Machine

/-- CLC, Implied, $18 (R190, R85). -/
def execClc (s : State) : Out := impliedOp (fun s => { s with fC := false }) s

/-- SEC, Implied, $38 (R191, R85). -/
def execSec (s : State) : Out := impliedOp (fun s => { s with fC := true }) s

/-- CLI, Implied, $58 (R192, R85). -/
def execCli (s : State) : Out := impliedOp (fun s => { s with fI := false }) s

/-- SEI, Implied, $78 (R193, R85). -/
def execSei (s : State) : Out := impliedOp (fun s => { s with fI := true }) s

/-- CLV, Implied, $B8 (R194, R85). -/
def execClv (s : State) : Out := impliedOp (fun s => { s with fV := false }) s

/-- CLD, Implied, $D8 (R195, R85). -/
def execCld (s : State) : Out := impliedOp (fun s => { s with fD := false }) s

/-- SED, Implied, $F8 (R196, R85). -/
def execSed (s : State) : Out := impliedOp (fun s => { s with fD := true }) s

end Sys2Proof.Machine
end

