-- ==== Sys2Proof/Machine/IncDecTransfer.lean ====
section
/-! DEFINITION. Increment, decrement and register instructions (spec 44_inc_dec_transfer.md R160 to R169). -/

namespace Sys2Proof.Machine

/-- DEC, Zero Page, $C6 (R160, R88). -/
def execDecZp (zp : Byte) (s : State) : Out := stepMem 0xFF#8 (.zp zp) s

/-- DEC, Zero Page,X, $D6 (R160, R89). -/
def execDecZpx (zp : Byte) (s : State) : Out := stepMem 0xFF#8 (.zpx zp) s

/-- DEC, Absolute, $CE (R160, R91). -/
def execDecAbs (w : Word) (s : State) : Out := stepMem 0xFF#8 (.abs w) s

/-- DEC, Absolute,X, $DE (R160, R92). -/
def execDecAbx (w : Word) (s : State) : Out := stepMem 0xFF#8 (.abx w) s

/-- INC, Zero Page, $E6 (R161, R88). -/
def execIncZp (zp : Byte) (s : State) : Out := stepMem 1#8 (.zp zp) s

/-- INC, Zero Page,X, $F6 (R161, R89). -/
def execIncZpx (zp : Byte) (s : State) : Out := stepMem 1#8 (.zpx zp) s

/-- INC, Absolute, $EE (R161, R91). -/
def execIncAbs (w : Word) (s : State) : Out := stepMem 1#8 (.abs w) s

/-- INC, Absolute,X, $FE (R161, R92). -/
def execIncAbx (w : Word) (s : State) : Out := stepMem 1#8 (.abx w) s

/-- TAX, Implied, $AA (R162, R85). -/
def execTax (s : State) : Out := impliedOp (fun s => s.loadX s.a) s

/-- TXA, Implied, $8A (R163, R85). -/
def execTxa (s : State) : Out := impliedOp (fun s => s.loadA s.x) s

/-- DEX, Implied, $CA (R164, R85). -/
def execDex (s : State) : Out := impliedOp (fun s => s.loadX (s.x - 1#8)) s

/-- INX, Implied, $E8 (R165, R85). -/
def execInx (s : State) : Out := impliedOp (fun s => s.loadX (s.x + 1#8)) s

/-- TAY, Implied, $A8 (R166, R85). -/
def execTay (s : State) : Out := impliedOp (fun s => s.loadY s.a) s

/-- TYA, Implied, $98 (R167, R85). -/
def execTya (s : State) : Out := impliedOp (fun s => s.loadA s.y) s

/-- DEY, Implied, $88 (R168, R85). -/
def execDey (s : State) : Out := impliedOp (fun s => s.loadY (s.y - 1#8)) s

/-- INY, Implied, $C8 (R169, R85). -/
def execIny (s : State) : Out := impliedOp (fun s => s.loadY (s.y + 1#8)) s

end Sys2Proof.Machine
end

