-- ==== Sys2Proof/Machine/JumpSubroutine.lean ====
section
/-! DEFINITION. Jumps and subroutines (spec 46_jump_subroutine.md R180 to R184). -/

namespace Sys2Proof.Machine

/-- Where the high byte of an indirect jump's target lies: the next address within the same page (R97). -/
def vectorHighAddr (w : Word) : Word := join (hi w) (lo w + 1#8)

/-- JMP, Absolute, $4C (R180, R91). -/
def execJmpAbs (w : Word) (s : State) : Out := .next ((s.advance 3).jump w)

/-- JMP, Indirect, $6C (R181, R97). The low byte comes from `w`, the high byte from the
same page. A vector in an I/O region with side effects is refused: the form is not among R69's plain ones. -/
def execJmpInd (w : Word) (s : State) : Out :=
  if s.kindOf w == .io || s.kindOf (vectorHighAddr w) == .io then .refused (.deviceExtraAccess w)
  else
    let l := (s.advance 3).readByte w
    let h := l.2.readByte (vectorHighAddr w)
    .next (h.2.jump (join h.1 l.1))

/-- JSR, Absolute, $20 (R182, R91). The address of its own last byte is pushed, high byte first, after both operand bytes were fetched (R68). -/
def execJsr (w : Word) (s : State) : Out := .next (((s.advance 3).pushWord (s.pc + 2#16)).jump w)

/-- RTS, Implied, $60 (R183, R85). The target is the pulled word plus 1. -/
def execRts (s : State) : Out := .next ((s.advance 1).pullWord.2.jump ((s.advance 1).pullWord.1 + 1#16))

end Sys2Proof.Machine
end

