-- ==== Sys2Proof/Machine/LoadStore.lean ====
section
/-! DEFINITION. Load and store instructions (spec 40_load_store.md R120 to R126). -/

namespace Sys2Proof.Machine

/-- LDA, Immediate, $A9 (R121, R87). -/
def execLdaImm (v : Byte) (s : State) : Out := immOp State.loadA v s

/-- LDA, Zero Page, $A5 (R121, R88). -/
def execLdaZp (zp : Byte) (s : State) : Out := readOp State.loadA (.zp zp) s

/-- LDA, Zero Page,X, $B5 (R121, R89). -/
def execLdaZpx (zp : Byte) (s : State) : Out := readOp State.loadA (.zpx zp) s

/-- LDA, Absolute, $AD (R121, R91). -/
def execLdaAbs (w : Word) (s : State) : Out := readOp State.loadA (.abs w) s

/-- LDA, Absolute,X, $BD (R121, R92). -/
def execLdaAbx (w : Word) (s : State) : Out := readOp State.loadA (.abx w) s

/-- LDA, Absolute,Y, $B9 (R121, R93). -/
def execLdaAby (w : Word) (s : State) : Out := readOp State.loadA (.aby w) s

/-- LDA, Indirect,X, $A1 (R121, R94). -/
def execLdaIzx (zp : Byte) (s : State) : Out := readOp State.loadA (.izx zp) s

/-- LDA, Indirect,Y, $B1 (R121, R95). -/
def execLdaIzy (zp : Byte) (s : State) : Out := readOp State.loadA (.izy zp) s

/-- LDX, Immediate, $A2 (R122, R87). -/
def execLdxImm (v : Byte) (s : State) : Out := immOp State.loadX v s

/-- LDX, Zero Page, $A6 (R122, R88). -/
def execLdxZp (zp : Byte) (s : State) : Out := readOp State.loadX (.zp zp) s

/-- LDX, Zero Page,Y, $B6 (R122, R90). -/
def execLdxZpy (zp : Byte) (s : State) : Out := readOp State.loadX (.zpy zp) s

/-- LDX, Absolute, $AE (R122, R91). -/
def execLdxAbs (w : Word) (s : State) : Out := readOp State.loadX (.abs w) s

/-- LDX, Absolute,Y, $BE (R122, R93). -/
def execLdxAby (w : Word) (s : State) : Out := readOp State.loadX (.aby w) s

/-- LDY, Immediate, $A0 (R123, R87). -/
def execLdyImm (v : Byte) (s : State) : Out := immOp State.loadY v s

/-- LDY, Zero Page, $A4 (R123, R88). -/
def execLdyZp (zp : Byte) (s : State) : Out := readOp State.loadY (.zp zp) s

/-- LDY, Zero Page,X, $B4 (R123, R89). -/
def execLdyZpx (zp : Byte) (s : State) : Out := readOp State.loadY (.zpx zp) s

/-- LDY, Absolute, $AC (R123, R91). -/
def execLdyAbs (w : Word) (s : State) : Out := readOp State.loadY (.abs w) s

/-- LDY, Absolute,X, $BC (R123, R92). -/
def execLdyAbx (w : Word) (s : State) : Out := readOp State.loadY (.abx w) s

/-- STA, Zero Page, $85 (R124, R88). -/
def execStaZp (zp : Byte) (s : State) : Out := storeOp State.a (.zp zp) s

/-- STA, Zero Page,X, $95 (R124, R89). -/
def execStaZpx (zp : Byte) (s : State) : Out := storeOp State.a (.zpx zp) s

/-- STA, Absolute, $8D (R124, R91). -/
def execStaAbs (w : Word) (s : State) : Out := storeOp State.a (.abs w) s

/-- STA, Absolute,X, $9D (R124, R92). -/
def execStaAbx (w : Word) (s : State) : Out := storeOp State.a (.abx w) s

/-- STA, Absolute,Y, $99 (R124, R93). -/
def execStaAby (w : Word) (s : State) : Out := storeOp State.a (.aby w) s

/-- STA, Indirect,X, $81 (R124, R94). -/
def execStaIzx (zp : Byte) (s : State) : Out := storeOp State.a (.izx zp) s

/-- STA, Indirect,Y, $91 (R124, R95). -/
def execStaIzy (zp : Byte) (s : State) : Out := storeOp State.a (.izy zp) s

/-- STX, Zero Page, $86 (R125, R88). -/
def execStxZp (zp : Byte) (s : State) : Out := storeOp State.x (.zp zp) s

/-- STX, Zero Page,Y, $96 (R125, R90). -/
def execStxZpy (zp : Byte) (s : State) : Out := storeOp State.x (.zpy zp) s

/-- STX, Absolute, $8E (R125, R91). -/
def execStxAbs (w : Word) (s : State) : Out := storeOp State.x (.abs w) s

/-- STY, Zero Page, $84 (R126, R88). -/
def execStyZp (zp : Byte) (s : State) : Out := storeOp State.y (.zp zp) s

/-- STY, Zero Page,X, $94 (R126, R89). -/
def execStyZpx (zp : Byte) (s : State) : Out := storeOp State.y (.zpx zp) s

/-- STY, Absolute, $8C (R126, R91). -/
def execStyAbs (w : Word) (s : State) : Out := storeOp State.y (.abs w) s

end Sys2Proof.Machine
end

