-- ==== Sys2Proof/Machine/Logic.lean ====
section
/-! DEFINITION. Logical instructions (spec 42_logic.md R140 to R143). -/

namespace Sys2Proof.Machine

/-- `A AND m` into A (R140). -/
def State.andA (m : Byte) (s : State) : State := s.loadA (s.a &&& m)

/-- `A XOR m` into A (R142). -/
def State.eorA (m : Byte) (s : State) : State := s.loadA (s.a ^^^ m)

/-- `A OR m` into A (R143). -/
def State.oraA (m : Byte) (s : State) : State := s.loadA (s.a ||| m)

/-- AND, Immediate, $29 (R140, R87). -/
def execAndImm (v : Byte) (s : State) : Out := immOp State.andA v s

/-- AND, Zero Page, $25 (R140, R88). -/
def execAndZp (zp : Byte) (s : State) : Out := readOp State.andA (.zp zp) s

/-- AND, Zero Page,X, $35 (R140, R89). -/
def execAndZpx (zp : Byte) (s : State) : Out := readOp State.andA (.zpx zp) s

/-- AND, Absolute, $2D (R140, R91). -/
def execAndAbs (w : Word) (s : State) : Out := readOp State.andA (.abs w) s

/-- AND, Absolute,X, $3D (R140, R92). -/
def execAndAbx (w : Word) (s : State) : Out := readOp State.andA (.abx w) s

/-- AND, Absolute,Y, $39 (R140, R93). -/
def execAndAby (w : Word) (s : State) : Out := readOp State.andA (.aby w) s

/-- AND, Indirect,X, $21 (R140, R94). -/
def execAndIzx (zp : Byte) (s : State) : Out := readOp State.andA (.izx zp) s

/-- AND, Indirect,Y, $31 (R140, R95). -/
def execAndIzy (zp : Byte) (s : State) : Out := readOp State.andA (.izy zp) s

/-- BIT, Zero Page, $24 (R141, R88). -/
def execBitZp (zp : Byte) (s : State) : Out := readOp State.bitTest (.zp zp) s

/-- BIT, Absolute, $2C (R141, R91). -/
def execBitAbs (w : Word) (s : State) : Out := readOp State.bitTest (.abs w) s

/-- EOR, Immediate, $49 (R142, R87). -/
def execEorImm (v : Byte) (s : State) : Out := immOp State.eorA v s

/-- EOR, Zero Page, $45 (R142, R88). -/
def execEorZp (zp : Byte) (s : State) : Out := readOp State.eorA (.zp zp) s

/-- EOR, Zero Page,X, $55 (R142, R89). -/
def execEorZpx (zp : Byte) (s : State) : Out := readOp State.eorA (.zpx zp) s

/-- EOR, Absolute, $4D (R142, R91). -/
def execEorAbs (w : Word) (s : State) : Out := readOp State.eorA (.abs w) s

/-- EOR, Absolute,X, $5D (R142, R92). -/
def execEorAbx (w : Word) (s : State) : Out := readOp State.eorA (.abx w) s

/-- EOR, Absolute,Y, $59 (R142, R93). -/
def execEorAby (w : Word) (s : State) : Out := readOp State.eorA (.aby w) s

/-- EOR, Indirect,X, $41 (R142, R94). -/
def execEorIzx (zp : Byte) (s : State) : Out := readOp State.eorA (.izx zp) s

/-- EOR, Indirect,Y, $51 (R142, R95). -/
def execEorIzy (zp : Byte) (s : State) : Out := readOp State.eorA (.izy zp) s

/-- ORA, Immediate, $09 (R143, R87). -/
def execOraImm (v : Byte) (s : State) : Out := immOp State.oraA v s

/-- ORA, Zero Page, $05 (R143, R88). -/
def execOraZp (zp : Byte) (s : State) : Out := readOp State.oraA (.zp zp) s

/-- ORA, Zero Page,X, $15 (R143, R89). -/
def execOraZpx (zp : Byte) (s : State) : Out := readOp State.oraA (.zpx zp) s

/-- ORA, Absolute, $0D (R143, R91). -/
def execOraAbs (w : Word) (s : State) : Out := readOp State.oraA (.abs w) s

/-- ORA, Absolute,X, $1D (R143, R92). -/
def execOraAbx (w : Word) (s : State) : Out := readOp State.oraA (.abx w) s

/-- ORA, Absolute,Y, $19 (R143, R93). -/
def execOraAby (w : Word) (s : State) : Out := readOp State.oraA (.aby w) s

/-- ORA, Indirect,X, $01 (R143, R94). -/
def execOraIzx (zp : Byte) (s : State) : Out := readOp State.oraA (.izx zp) s

/-- ORA, Indirect,Y, $11 (R143, R95). -/
def execOraIzy (zp : Byte) (s : State) : Out := readOp State.oraA (.izy zp) s

end Sys2Proof.Machine
end

