-- ==== Sys2Proof/Machine/ShiftRotate.lean ====
section
/-! DEFINITION. Shift and rotate instructions (spec 43_shift_rotate.md R150 to R154). -/

namespace Sys2Proof.Machine

/-- ASL does not read the carry (R150). -/
def aslByte (_ : Bool) (old : Byte) : ShiftOut := shiftLeft old

/-- LSR does not read the carry (R151). -/
def lsrByte (_ : Bool) (old : Byte) : ShiftOut := shiftRight old

/-- ASL, Zero Page, $06 (R150, R88). -/
def execAslZp (zp : Byte) (s : State) : Out := shiftMem aslByte (.zp zp) s

/-- ASL, Zero Page,X, $16 (R150, R89). -/
def execAslZpx (zp : Byte) (s : State) : Out := shiftMem aslByte (.zpx zp) s

/-- ASL, Absolute, $0E (R150, R91). -/
def execAslAbs (w : Word) (s : State) : Out := shiftMem aslByte (.abs w) s

/-- ASL, Absolute,X, $1E (R150, R92). -/
def execAslAbx (w : Word) (s : State) : Out := shiftMem aslByte (.abx w) s

/-- ASL, Accumulator, $0A (R150, R86). -/
def execAslAcc (s : State) : Out := shiftAcc aslByte s

/-- LSR, Zero Page, $46 (R151, R88). -/
def execLsrZp (zp : Byte) (s : State) : Out := shiftMem lsrByte (.zp zp) s

/-- LSR, Zero Page,X, $56 (R151, R89). -/
def execLsrZpx (zp : Byte) (s : State) : Out := shiftMem lsrByte (.zpx zp) s

/-- LSR, Absolute, $4E (R151, R91). -/
def execLsrAbs (w : Word) (s : State) : Out := shiftMem lsrByte (.abs w) s

/-- LSR, Absolute,X, $5E (R151, R92). -/
def execLsrAbx (w : Word) (s : State) : Out := shiftMem lsrByte (.abx w) s

/-- LSR, Accumulator, $4A (R151, R86). -/
def execLsrAcc (s : State) : Out := shiftAcc lsrByte s

/-- ROL, Zero Page, $26 (R152, R88). -/
def execRolZp (zp : Byte) (s : State) : Out := shiftMem rotateLeft (.zp zp) s

/-- ROL, Zero Page,X, $36 (R152, R89). -/
def execRolZpx (zp : Byte) (s : State) : Out := shiftMem rotateLeft (.zpx zp) s

/-- ROL, Absolute, $2E (R152, R91). -/
def execRolAbs (w : Word) (s : State) : Out := shiftMem rotateLeft (.abs w) s

/-- ROL, Absolute,X, $3E (R152, R92). -/
def execRolAbx (w : Word) (s : State) : Out := shiftMem rotateLeft (.abx w) s

/-- ROL, Accumulator, $2A (R152, R86). -/
def execRolAcc (s : State) : Out := shiftAcc rotateLeft s

/-- ROR, Zero Page, $66 (R153, R88). -/
def execRorZp (zp : Byte) (s : State) : Out := shiftMem rotateRight (.zp zp) s

/-- ROR, Zero Page,X, $76 (R153, R89). -/
def execRorZpx (zp : Byte) (s : State) : Out := shiftMem rotateRight (.zpx zp) s

/-- ROR, Absolute, $6E (R153, R91). -/
def execRorAbs (w : Word) (s : State) : Out := shiftMem rotateRight (.abs w) s

/-- ROR, Absolute,X, $7E (R153, R92). -/
def execRorAbx (w : Word) (s : State) : Out := shiftMem rotateRight (.abx w) s

/-- ROR, Accumulator, $6A (R153, R86). -/
def execRorAcc (s : State) : Out := shiftAcc rotateRight s

end Sys2Proof.Machine
end

