-- ==== Sys2Proof/Machine/Stack.lean ====
section
/-! DEFINITION. Stack instructions (spec 48_stack.md R200 to R205). -/

namespace Sys2Proof.Machine

/-- TXS, Implied, $9A (R200, R85). No flag changes. -/
def execTxs (s : State) : Out := impliedOp (fun s => { s with sp := s.x }) s

/-- TSX, Implied, $BA (R201, R85). -/
def execTsx (s : State) : Out := impliedOp (fun s => s.loadX s.sp) s

/-- PHA, Implied, $48 (R202, R85). -/
def execPha (s : State) : Out := impliedOp (fun s => s.push s.a) s

/-- PLA, Implied, $68 (R203, R85). -/
def execPla (s : State) : Out := impliedOp (fun s => s.pull.2.loadA s.pull.1) s

/-- PHP, Implied, $08 (R204, R85). Bits 5 and 4 of the pushed byte are 1. -/
def execPhp (s : State) : Out := impliedOp (fun s => s.push (s.statusByte true)) s

/-- PLP, Implied, $28 (R205, R85). -/
def execPlp (s : State) : Out := impliedOp (fun s => s.pull.2.setStatus s.pull.1) s

end Sys2Proof.Machine
end

