-- ==== Sys2Proof/Machine/System.lean ====
section
/-! DEFINITION. System instructions (spec 49_system.md R210 to R212). -/

namespace Sys2Proof.Machine

/-- BRK, Implied, $00 (R210, R85). It enters through the vector IRQ has, pushing `a + 2` and bit 4 = 1; it is taken whatever I is. -/
def execBrk (s : State) : Out := .next (s.enter (s.pc + 2#16) s.vecIrq true)

/-- RTI, Implied, $40 (R211, R85). Flags, then PC; nothing is added to the address. -/
def execRti (s : State) : Out := .next s.returnFromException

/-- NOP, Implied, $EA (R212, R85). Only the program counter moves. -/
def execNop (s : State) : Out := impliedOp (fun s => s) s

end Sys2Proof.Machine
end

