-- ==== Sys2Proof/Machine/Fetch.lean ====
section
/-! DEFINITION. What happens at an instruction boundary: the inputs are sampled, an event is recognised
(spec 60_exceptions.md R224) or the instruction's bytes are fetched (30_encoding.md R84, 20_memory.md R70). -/

namespace Sys2Proof.Machine

/-- The inputs at a boundary (R39, U12): the next entry of the platform's script sets both levels and
latches an NMI edge; when the script is over the levels stay and no edge comes (entry 8). -/
def State.sample (s : State) : State :=
  match s.inputs with
  | [] => s
  | p :: rest =>
    { s with
      irqLine := p.irqLine, nmiPending := s.nmiPending || p.nmiEdge, resetReq := p.resetReq
      inputs := rest }

/-- What a step does (R11, R224). -/
inductive Event where
  | reset | nmi | irq | instruction
  deriving DecidableEq, Repr

/-- Recognition (R224): reset, then NMI, then an unmasked IRQ, then the instruction. Where I and `I_before`
differ both outcomes are admitted: a free bit decides (U10, entry 10). -/
def State.recognise (s : State) : Event × State :=
  if s.resetReq then (.reset, s)
  else if s.nmiPending then (.nmi, s)
  else if s.irqLine then
    if s.fI == s.iBefore then (if s.fI then .instruction else .irq, s)
    else (if s.drawBit.1 then .irq else .instruction, s.drawBit.2)
  else (.instruction, s)

/-- The instruction at PC (R83, R84): op code at `a`, operand bytes at `a + 1` and `a + 2` as the length
calls for, mod 65536. An undefined op code byte is answered alone (R99). -/
def State.fetch (s : State) : Except Byte (Instr × State) :=
  let o := s.readByte s.pc
  match decodeOpcode o.1 with
  | none => .error o.1
  | some (.one i) => .ok (i, o.2)
  | some (.two f) =>
    let b := o.2.readByte (s.pc + 1#16)
    .ok (f b.1, b.2)
  | some (.three f) =>
    let l := o.2.readByte (s.pc + 1#16)
    let h := l.2.readByte (s.pc + 2#16)
    .ok (f (join h.1 l.1), h.2)

/-- The instruction at PC fetched and executed; an undefined op code is the spec's model fault (R84, R99). -/
def runInstruction (s : State) : Out :=
  match s.fetch with
  | .error opc => .fault (.illegalOpcode opc s.pc)
  | .ok (i, t) => exec i t

/-- A boundary (R11): sample the inputs, recognise what they bring, and do it (R224 to R227, R250). -/
def State.boundary (s : State) : Out :=
  match s.sample.recognise with
  | (.reset, t) => .next t.resetEntry
  | (.nmi, t) => .next t.nmiEntry
  | (.irq, t) => .next t.irqEntry
  | (.instruction, t) => runInstruction t

/-- A byte put where a fetch finds it: memory holds it, and an address that is I/O or unmapped becomes one
byte of RAM. -/
def State.placeByte (s : State) (a : Word) (b : Byte) : State :=
  { s with
    mem := s.mem.write a b
    regions := if s.kindOf a == .ram || s.kindOf a == .rom then s.regions else ⟨a.toNat, 1, .ram⟩ :: s.regions }

/-- No request now and none to come: the next steps run instructions. -/
def State.silence (s : State) : State :=
  { s with irqLine := false, nmiPending := false, resetReq := false, inputs := [] }

/-- Three bytes placed at PC, PC + 1 and PC + 2. -/
def State.placeBytes (s : State) : List Byte → State
  | [b0, b1, b2] => ((s.placeByte s.pc b0).placeByte (s.pc + 1#16) b1).placeByte (s.pc + 2#16) b2
  | _ => s

end Sys2Proof.Machine
end

