-- ==== Sys2Proof/Machine/Step.lean ====
section
/-! DEFINITION. One step of the machine (spec 00_scope.md R11): reset, an interrupt entry, or one instruction. -/

namespace Sys2Proof.Machine

/-- One step (R11): reset, an interrupt entry, or one instruction, as the boundary brings. -/
def step (s : State) : Host.Outcome State Fault Refusal := s.boundary

/-- The state whose next step runs exactly the instruction with the bits `w` of the opcode table's
numbering: its bytes stand at PC and no interrupt or reset is requested (entry 21). -/
def State.withFetchWord (s : State) (nbits w : Nat) : State :=
  s.silence.placeBytes (tableWordBytes nbits w)

end Sys2Proof.Machine
end

