-- ==== Sys2Proof/Machine/Assembler.lean ====
section
/-! DEFINITION. The assembler's side of an instruction (spec 30_encoding.md R103 to R109): how an instruction
is written, which of the Zero Page and Absolute forms an address selects, the displacement of a label, and
the return address built by hand. The machine itself works from bytes and reads none of this. -/

namespace Sys2Proof.Machine

/-- A digit of hexadecimal notation (R6). -/
def hexDigit (n : Nat) : String :=
  (["0", "1", "2", "3", "4", "5", "6", "7", "8", "9", "A", "B", "C", "D", "E", "F"]).getD n "?"

/-- A byte as two hexadecimal digits. -/
def hexByte (b : Byte) : String := hexDigit (b.toNat / 16) ++ hexDigit (b.toNat % 16)

/-- A number as the source writes it: `$` and hexadecimal digits (R6, R104). -/
def hexField : Field → String
  | .none => ""
  | .byte b => "$" ++ hexByte b
  | .word w => "$" ++ hexByte (hi w) ++ hexByte (lo w)

/-- The three upper-case letters of a mnemonic (R1, R103). -/
def Mnemonic.text : Mnemonic → String
  | .lda => "LDA" | .ldx => "LDX" | .ldy => "LDY" | .sta => "STA"
  | .stx => "STX" | .sty => "STY" | .adc => "ADC" | .sbc => "SBC"
  | .cmp => "CMP" | .cpx => "CPX" | .cpy => "CPY" | .and => "AND"
  | .bit => "BIT" | .eor => "EOR" | .ora => "ORA" | .asl => "ASL"
  | .lsr => "LSR" | .rol => "ROL" | .ror => "ROR" | .dec => "DEC"
  | .inc => "INC" | .tax => "TAX" | .txa => "TXA" | .dex => "DEX"
  | .inx => "INX" | .tay => "TAY" | .tya => "TYA" | .dey => "DEY"
  | .iny => "INY" | .bpl => "BPL" | .bmi => "BMI" | .bvc => "BVC"
  | .bvs => "BVS" | .bcc => "BCC" | .bcs => "BCS" | .bne => "BNE"
  | .beq => "BEQ" | .jmp => "JMP" | .jsr => "JSR" | .rts => "RTS"
  | .clc => "CLC" | .sec => "SEC" | .cli => "CLI" | .sei => "SEI"
  | .clv => "CLV" | .cld => "CLD" | .sed => "SED" | .txs => "TXS"
  | .tsx => "TSX" | .pha => "PHA" | .pla => "PLA" | .php => "PHP"
  | .plp => "PLP" | .brk => "BRK" | .rti => "RTI" | .nop => "NOP"

/-- An instruction as text, by its mode's syntax (R103); a branch is written with its displacement byte. -/
def asmText (r : RawInstr) : String :=
  let m := Mnemonic.text r.mnemonic
  let n := hexField r.operand
  match r.mode with
  | .imp => m
  | .acc => m ++ " A"
  | .imm => m ++ " #" ++ n
  | .zp => m ++ " " ++ n
  | .zpx => m ++ " " ++ n ++ ",X"
  | .zpy => m ++ " " ++ n ++ ",Y"
  | .abs => m ++ " " ++ n
  | .abx => m ++ " " ++ n ++ ",X"
  | .aby => m ++ " " ++ n ++ ",Y"
  | .izx => m ++ " (" ++ n ++ ",X)"
  | .izy => m ++ " (" ++ n ++ "),Y"
  | .ind => m ++ " (" ++ n ++ ")"
  | .rel => m ++ " " ++ n

/-- The Zero Page and Absolute modes most assemblers choose between by the address value (R106): the pairs of
modes of one index, the zero-page one first. -/
def zeroPageMode : Mode → Option Mode
  | .abs => some .zp
  | .abx => some .zpx
  | .aby => some .zpy
  | _ => none

/-- The raw form an assembler of R106 picks for a mnemonic with an address written in an absolute mode: the
Zero Page form when the value fits in a byte and the mnemonic has it. -/
def chooseForm (m : Mnemonic) (mode : Mode) (addr : Word) : RawInstr :=
  match zeroPageMode mode with
  | some z =>
    if hi addr = 0 ∧ m.modes.contains z then ⟨m, z, .byte (lo addr)⟩ else ⟨m, mode, .word addr⟩
  | none => ⟨m, mode, .word addr⟩

/-- The displacement byte of a branch at `a` to `label` (R108): `(label - (a + 2)) mod 256`, refused outside
`a - 126 .. a + 129`. -/
def branchDisplacement (a label : Word) : Option Byte :=
  let d := label - (a + 2#16)
  if sext16 (lo d) = d then some (lo d) else none

/-- The word to push, high byte first, so that RTS goes to `target` (R109, R184): `target - 1`. -/
def falseReturnAddress (target : Word) : Word := target - 1#16

end Sys2Proof.Machine
end

