-- ==== Sys2Proof/Machine/NmosDecimal.lean ====
section
/-! DEFINITION. The NMOS part's decimal algorithm (spec 93_implementation_defined.md U6): the optional
configuration function. It is written beside the machine and NOT installed: `State.adc` and `State.sbc` keep
the draws of R132 and R133 (entry 27). -/

namespace Sys2Proof.Machine

/-- What U6 gives: the byte and the four flags. -/
structure NmosOut where
  result : Byte
  carry : Bool
  negative : Bool
  overflow : Bool
  zero : Bool
  deriving DecidableEq, Repr

/-- A byte's high digit in place, `b & $F0`, as a number. -/
def highDigit (b : Byte) : Int := (b.toNat / 16 * 16 : Nat)

/-- A byte's low digit, `b & $0F`, as a number. -/
def lowDigit (b : Byte) : Int := (b.toNat % 16 : Nat)

/-- `s8(b & $F0)`: the high digit in place read as signed (R8). -/
def signedHighDigit (b : Byte) : Int := if b.toNat < 128 then highDigit b else highDigit b - 256

/-- ADC with D = 1 on the NMOS part (U6). -/
def nmosAddDecimal (a m : Byte) (c : Bool) : NmosOut :=
  let al := lowDigit a + lowDigit m + c.toNat
  let al := if 10 ≤ al then (al + 6) % 16 + 16 else al
  let r := highDigit a + highDigit m + al
  let r' := if 160 ≤ r then r + 96 else r
  { result := BitVec.ofInt 8 r'
    carry := decide (256 ≤ r')
    negative := (BitVec.ofInt 8 r).getLsbD 7
    overflow := outsideSigned (signedHighDigit a + signedHighDigit m + al)
    zero := (addBinary a m c).result == 0#8 }

/-- SBC with D = 1 on the NMOS part (U6): the flags are the binary SBC's. -/
def nmosSubDecimal (a m : Byte) (c : Bool) : NmosOut :=
  let al := lowDigit a - lowDigit m + c.toNat - 1
  let al := if al < 0 then (al - 6) % 16 - 16 else al
  let r := highDigit a - highDigit m + al
  let r' := if r < 0 then r - 96 else r
  { result := BitVec.ofInt 8 r'
    carry := (subBinary a m c).carry
    negative := (subBinary a m c).result.getLsbD 7
    overflow := (subBinary a m c).overflow
    zero := (subBinary a m c).result == 0#8 }

end Sys2Proof.Machine
end

