-- ==== Sys2Proof/Machine/Timing.lean ====
section
/-! DEFINITION. Execution times (spec 70_reset_and_hazards.md R263 to R266, 45_branch.md R170,
60_exceptions.md R240). Informational: no rule and no step reads them, and State holds no clock (entry 23). -/

namespace Sys2Proof.Machine

/-- The TIM column of an instruction's row: machine cycles, and whether a `+` stands after them (R265). -/
def Instr.tim : Instr → Nat × Bool
  | .ldaImm _ => (2, false)
  | .ldaZp _ => (3, false)
  | .ldaZpx _ => (4, false)
  | .ldaAbs _ => (4, false)
  | .ldaAbx _ => (4, true)
  | .ldaAby _ => (4, true)
  | .ldaIzx _ => (6, false)
  | .ldaIzy _ => (5, true)
  | .ldxImm _ => (2, false)
  | .ldxZp _ => (3, false)
  | .ldxZpy _ => (4, false)
  | .ldxAbs _ => (4, false)
  | .ldxAby _ => (4, true)
  | .ldyImm _ => (2, false)
  | .ldyZp _ => (3, false)
  | .ldyZpx _ => (4, false)
  | .ldyAbs _ => (4, false)
  | .ldyAbx _ => (4, true)
  | .staZp _ => (3, false)
  | .staZpx _ => (4, false)
  | .staAbs _ => (4, false)
  | .staAbx _ => (5, false)
  | .staAby _ => (5, false)
  | .staIzx _ => (6, false)
  | .staIzy _ => (6, false)
  | .stxZp _ => (3, false)
  | .stxZpy _ => (4, false)
  | .stxAbs _ => (4, false)
  | .styZp _ => (3, false)
  | .styZpx _ => (4, false)
  | .styAbs _ => (4, false)
  | .adcImm _ => (2, false)
  | .adcZp _ => (3, false)
  | .adcZpx _ => (4, false)
  | .adcAbs _ => (4, false)
  | .adcAbx _ => (4, true)
  | .adcAby _ => (4, true)
  | .adcIzx _ => (6, false)
  | .adcIzy _ => (5, true)
  | .sbcImm _ => (2, false)
  | .sbcZp _ => (3, false)
  | .sbcZpx _ => (4, false)
  | .sbcAbs _ => (4, false)
  | .sbcAbx _ => (4, true)
  | .sbcAby _ => (4, true)
  | .sbcIzx _ => (6, false)
  | .sbcIzy _ => (5, true)
  | .cmpImm _ => (2, false)
  | .cmpZp _ => (3, false)
  | .cmpZpx _ => (4, false)
  | .cmpAbs _ => (4, false)
  | .cmpAbx _ => (4, true)
  | .cmpAby _ => (4, true)
  | .cmpIzx _ => (6, false)
  | .cmpIzy _ => (5, true)
  | .cpxImm _ => (2, false)
  | .cpxZp _ => (3, false)
  | .cpxAbs _ => (4, false)
  | .cpyImm _ => (2, false)
  | .cpyZp _ => (3, false)
  | .cpyAbs _ => (4, false)
  | .andImm _ => (2, false)
  | .andZp _ => (3, false)
  | .andZpx _ => (4, false)
  | .andAbs _ => (4, false)
  | .andAbx _ => (4, true)
  | .andAby _ => (4, true)
  | .andIzx _ => (6, false)
  | .andIzy _ => (5, true)
  | .bitZp _ => (3, false)
  | .bitAbs _ => (4, false)
  | .eorImm _ => (2, false)
  | .eorZp _ => (3, false)
  | .eorZpx _ => (4, false)
  | .eorAbs _ => (4, false)
  | .eorAbx _ => (4, true)
  | .eorAby _ => (4, true)
  | .eorIzx _ => (6, false)
  | .eorIzy _ => (5, true)
  | .oraImm _ => (2, false)
  | .oraZp _ => (3, false)
  | .oraZpx _ => (4, false)
  | .oraAbs _ => (4, false)
  | .oraAbx _ => (4, true)
  | .oraAby _ => (4, true)
  | .oraIzx _ => (6, false)
  | .oraIzy _ => (5, true)
  | .aslZp _ => (5, false)
  | .aslZpx _ => (6, false)
  | .aslAbs _ => (6, false)
  | .aslAbx _ => (7, false)
  | .aslAcc => (2, false)
  | .lsrZp _ => (5, false)
  | .lsrZpx _ => (6, false)
  | .lsrAbs _ => (6, false)
  | .lsrAbx _ => (7, false)
  | .lsrAcc => (2, false)
  | .rolZp _ => (5, false)
  | .rolZpx _ => (6, false)
  | .rolAbs _ => (6, false)
  | .rolAbx _ => (7, false)
  | .rolAcc => (2, false)
  | .rorZp _ => (5, false)
  | .rorZpx _ => (6, false)
  | .rorAbs _ => (6, false)
  | .rorAbx _ => (7, false)
  | .rorAcc => (2, false)
  | .decZp _ => (5, false)
  | .decZpx _ => (6, false)
  | .decAbs _ => (6, false)
  | .decAbx _ => (7, false)
  | .incZp _ => (5, false)
  | .incZpx _ => (6, false)
  | .incAbs _ => (6, false)
  | .incAbx _ => (7, false)
  | .tax => (2, false)
  | .txa => (2, false)
  | .dex => (2, false)
  | .inx => (2, false)
  | .tay => (2, false)
  | .tya => (2, false)
  | .dey => (2, false)
  | .iny => (2, false)
  | .bpl _ => (2, false)
  | .bmi _ => (2, false)
  | .bvc _ => (2, false)
  | .bvs _ => (2, false)
  | .bcc _ => (2, false)
  | .bcs _ => (2, false)
  | .bne _ => (2, false)
  | .beq _ => (2, false)
  | .jmpAbs _ => (3, false)
  | .jmpInd _ => (5, false)
  | .jsr _ => (6, false)
  | .rts => (6, false)
  | .clc => (2, false)
  | .sec => (2, false)
  | .cli => (2, false)
  | .sei => (2, false)
  | .clv => (2, false)
  | .cld => (2, false)
  | .sed => (2, false)
  | .txs => (2, false)
  | .tsx => (2, false)
  | .pha => (3, false)
  | .pla => (4, false)
  | .php => (3, false)
  | .plp => (4, false)
  | .brk => (7, false)
  | .rti => (6, false)
  | .nop => (2, false)

/-- Whether a conditional branch of this mnemonic is taken (R171 to R178); false for every other mnemonic. -/
def branchTaken (m : Mnemonic) (s : State) : Bool :=
  match m with
  | .bpl => !s.fN | .bmi => s.fN | .bvc => !s.fV | .bvs => s.fV
  | .bcc => !s.fC | .bcs => s.fC | .bne => !s.fZ | .beq => s.fZ
  | _ => false

/-- The extra cycle of a `+`: one if the form crosses a page boundary (R264). -/
def crossingCycles (i : Instr) (s : State) : Nat :=
  match Instr.memForm i with
  | some f => if f.crosses s then 1 else 0
  | none => 0

/-- The extra cycles of a branch (R170, R264): one if it is taken, one more if the target lies on a page other
than the next instruction's. -/
def branchCycles (i : Instr) (s : State) : Nat :=
  match i.mode, i.operand with
  | .rel, .byte disp =>
    if branchTaken i.mnemonic s then
      if hi (branchTarget s.pc disp) = hi (s.pc + 2#16) then 1 else 2
    else 0
  | _, _ => 0

/-- Machine cycles the instruction takes at `s.pc` (R263 to R265). -/
def cycles (i : Instr) (s : State) : Nat :=
  (Instr.tim i).1 + (if (Instr.tim i).2 then crossingCycles i s else 0) + branchCycles i s

/-- Machine cycles of an IRQ or NMI entry (R240). PRESUMED: the spec takes it from general knowledge. -/
def entryCycles : Nat := 7

end Sys2Proof.Machine
end

