-- ==== Sys2Proof/Safety.lean ====
section
/-! DEFINITION. The terms claims are made in: what a run is, where it ends, and the premises on the platform
that a claim may carry (spec 00_scope.md R5, 70_reset_and_hazards.md R252, 92_eei_decisions.md D11, D16, D19). -/

namespace Sys2Proof.Safety

open Sys2Proof.Machine

/-- The states some number of steps leads to. -/
inductive Reaches : State → State → Prop where
  | here (s : State) : Reaches s s
  | step {s t u : State} : Machine.step s = .next t → Reaches t u → Reaches s u

/-- The run from `s` ends when the user's predicate `halt` first holds (R5, R252, D19; entry 26), within
`n` steps; a fault or a refusal is never such an end. -/
def runUntil (halt : State → Bool) : Nat → State → Option State
  | 0, s => if halt s then some s else none
  | n + 1, s =>
    if halt s then some s
    else
      match Machine.step s with
      | .next t => runUntil halt n t
      | .fault _ => none
      | .refused _ => none

/-- A step does not stop. -/
def StepsOn (s : State) : Prop := ∃ t, Machine.step s = .next t

/-- No reset, NMI or IRQ is requested now or in the rest of the script. -/
def Quiet (s : State) : Prop :=
  s.irqLine = false ∧ s.nmiPending = false ∧ s.resetReq = false ∧ s.inputs = []

/-- The map has no I/O region with side effects (R57, R69): the devices it has, if any, carry the premise of U7. -/
def NoDevices (s : State) : Prop := ∀ r ∈ s.regions, r.kind ≠ .io

/-- The bytes of memory behind an address are what a read returns: RAM or ROM (R57). -/
def Backed (s : State) (a : Word) : Prop := s.kindOf a = .ram ∨ s.kindOf a = .rom

/-- The invariant every step keeps: memory is in its canonical form. -/
def MemoryCanonical (s : State) : Prop := s.mem.wf = true

end Sys2Proof.Safety
end

