-- ==== Sys2Proof/Certificates/Slice0/Obligations.lean ====
section
/-! DEFINITION. The statements for the provers, from the numbered rules of spec/. The helpers of
`Sys2Proof.Claims` spell out what several statements share; each says what the rules say in terms of the state's
fields. -/

namespace Sys2Proof.Claims

open Sys2Proof.Machine

/-- PC past an instruction of `n` bytes (R84), and `I_before` the I it started with (R39): what every
instruction that sets nothing else does. -/
def after (n : Nat) (s : State) : State := { s with pc := s.pc + BitVec.ofNat 16 n, iBefore := s.fI }

/-- The operand byte a form reads (R120). -/
def operandByte (s : State) (f : MemForm) : Byte := (s.readByte (f.ea s)).1

/-- After an instruction that reads its operand: `after`, and what the read of an unmapped or I/O address
took from the draws and told the device (R57). Nothing else differs from `s`. -/
def afterOperand (s : State) (f : MemForm) : State :=
  { after f.length s with
    draws := (s.readByte (f.ea s)).2.draws, devLog := (s.readByte (f.ea s)).2.devLog }

/-- A row of an Encoding table whose operand is a byte of memory: op code and TIM. -/
structure MemRow where
  instr : Instr
  form : MemForm
  opcode : Byte
  tim : Nat × Bool

/-- The operand bytes of a form, low byte first (R81, R83). -/
def formBytes : MemForm → List Byte
  | .zp b => [b] | .zpx b => [b] | .zpy b => [b] | .izx b => [b] | .izy b => [b]
  | .abs w => [BitVec.ofNat 8 w.toNat, BitVec.ofNat 8 (w.toNat / 256)]
  | .abx w => [BitVec.ofNat 8 w.toNat, BitVec.ofNat 8 (w.toNat / 256)]
  | .aby w => [BitVec.ofNat 8 w.toNat, BitVec.ofNat 8 (w.toNat / 256)]

/-- The row's bytes are its op code and its operand bytes, as long as its form, and its TIM is the table's. -/
def MemRow.encoded (r : MemRow) : Prop :=
  encode r.instr = r.opcode :: formBytes r.form ∧ r.instr.length = r.form.length ∧
    Instr.tim r.instr = r.tim ∧ Instr.memForm r.instr = some r.form

/-- `$0100 + S` (R59). -/
def stackCell (sp : Byte) : Word := BitVec.ofNat 16 (0x100 + sp.toNat)

/-- The writing state `t` differs from `s` in memory at `a` alone, where RAM now reads as `v`. -/
def storesOnly (s t : State) (a : Word) (v : Byte) : Prop :=
  (s.kindOf a = .ram → t.mem.read a = v) ∧ ∀ a' : Word, a' ≠ a → t.mem.read a' = s.mem.read a'

/-- A read-modify-write (R154): the byte `r` is written at the effective address after its one read, then
`flags` are set; no other byte of memory changes. -/
def modifies (s : State) (row : MemRow) (r : Byte) (flags : State → State) : Prop :=
  exec row.instr s = .next (flags ((afterOperand s row.form).writeByte (row.form.ea s) r)) ∧
    storesOnly s ((afterOperand s row.form).writeByte (row.form.ea s) r) (row.form.ea s) r

/-- Binary ADC of `m` (R130), ending in the fields of `base`. -/
def added (s : State) (m : Byte) (base : State) : State :=
  let sum : Nat := s.a.toNat + m.toNat + s.fC.toNat
  let t : Int := s.a.toInt + m.toInt + s.fC.toNat
  let r : Byte := BitVec.ofNat 8 sum
  { base with
    a := r, fC := decide (sum > 255), fV := decide (t < -128 ∨ t > 127), fN := r.getLsbD 7, fZ := r == 0#8 }

/-- Binary SBC of `m` (R131), ending in the fields of `base`. -/
def subtracted (s : State) (m : Byte) (base : State) : State :=
  let borrow : Int := if s.fC then 0 else 1
  let d : Int := (s.a.toNat : Int) - m.toNat - borrow
  let t : Int := s.a.toInt - m.toInt - borrow
  let r : Byte := BitVec.ofInt 8 d
  { base with
    a := r, fC := decide (d ≥ 0), fV := decide (t < -128 ∨ t > 127), fN := r.getLsbD 7, fZ := r == 0#8 }

/-- What is determined of a decimal operation (R132, R133) with exact result `n` mod 100 and carry `c`: `t` is
`base` with A and C exact on packed BCD operands, and some values for all that is drawn. -/
def decimalOutcome (s : State) (m : Byte) (n : Nat) (c : Bool) (base t : State) : Prop :=
  (bcdValid s.a = true ∧ bcdValid m = true →
    ∃ (fn fv fz : Bool) (k : Nat), t = { base with
      a := BitVec.ofNat 8 (n / 10 * 16 + n % 10), fC := c, fN := fn, fV := fv, fZ := fz, draws := k }) ∧
  (¬ (bcdValid s.a = true ∧ bcdValid m = true) →
    ∃ (a : Byte) (fc fn fv fz : Bool) (k : Nat), t = { base with
      a := a, fC := fc, fN := fn, fV := fv, fZ := fz, draws := k })

/-- Decimal ADC of `m` (R132). -/
def decimalAdd (s : State) (m : Byte) (base t : State) : Prop :=
  let n := bcdValue s.a + bcdValue m + s.fC.toNat
  decimalOutcome s m (n % 100) (decide (n ≥ 100)) base t

/-- Decimal SBC of `m` (R133); a negative difference is taken plus 100. -/
def decimalSub (s : State) (m : Byte) (base t : State) : Prop :=
  let n : Int := (bcdValue s.a : Int) - bcdValue m - (if s.fC then 0 else 1)
  decimalOutcome s m (if n ≥ 0 then n else n + 100).toNat (decide (n ≥ 0)) base t

/-- The flags of a compare of the register value `r` with `m` (R134), in `base`. -/
def compared (r m : Byte) (base : State) : State :=
  { base with
    fC := decide (r.toNat ≥ m.toNat), fZ := decide (r.toNat = m.toNat)
    fN := decide (((r.toNat : Int) - m.toNat) % 256 ≥ 128) }

/-- `Pbyte(b)` bit by bit (R34): N, V, 1, b, D, I, Z, C from bit 7 down. -/
def pByte (s : State) (b : Bool) : Byte :=
  BitVec.ofBoolListBE [s.fN, s.fV, true, b, s.fD, s.fI, s.fZ, s.fC]

/-- `setP(v)` (R35). -/
def withStatus (v : Byte) (s : State) : State :=
  { s with
    fN := v.getLsbD 7, fV := v.getLsbD 6, fD := v.getLsbD 3
    fI := v.getLsbD 2, fZ := v.getLsbD 1, fC := v.getLsbD 0 }

/-- `Enter(vec, b)` (R225) with `ret` pushed: three stack bytes, S less 3, I and `I_before` 1, PC the word at
the vector (read after the pushes); nothing else but what the vector's read takes from the draws and tells a
device. -/
def entered (s : State) (ret vec : Word) (b : Bool) : State :=
  let p : State := { s with
    mem := ((s.mem.write (stackCell s.sp) (hi ret)).write (stackCell (s.sp - 1#8)) (lo ret)).write
      (stackCell (s.sp - 2#8)) (pByte s b)
    sp := s.sp - 3#8, fI := true, iBefore := true }
  let l := p.readByte vec
  let h := l.2.readByte (vec + 1#16)
  { p with pc := join h.1 l.1, draws := h.2.draws, devLog := h.2.devLog }

/-- `n` bytes read one after another from `a` on, mod 65536 (R70), and the state the reads leave. -/
def readFrom : Nat → Word → State → List Byte × State
  | 0, _, s => ([], s)
  | n + 1, a, s =>
    let r := s.readByte a
    let rest := readFrom n (a + 1#16) r.2
    (r.1 :: rest.1, rest.2)

/-- The operand byte of an instruction in Immediate mode or with a byte of memory as its operand (R120). -/
def operandOf (i : Instr) (s : State) : Option Byte :=
  match Instr.memForm i, i.mode, i.operand with
  | some f, _, _ => some (operandByte s f)
  | none, .imm, .byte v => some v
  | none, _, _ => none

/-- The register a load or a store names (R121 to R126). -/
def registerOf (m : Mnemonic) (s : State) : Byte :=
  if m ∈ [.ldx, .stx] then s.x else if m ∈ [.ldy, .sty] then s.y else s.a

/-- The eight branches with a displacement and whether each is taken (R171 to R178). -/
def branches (d : Byte) (s : State) : List (Instr × Bool) :=
  [(.bpl d, !s.fN), (.bmi d, s.fN), (.bvc d, !s.fV), (.bvs d, s.fV),
   (.bcc d, !s.fC), (.bcs d, s.fC), (.bne d, !s.fZ), (.beq d, s.fZ)]

/-- `target` lies on another page than the next instruction `a + 2`, and its address with that page's number is
a device's with side effects. -/
def crossesToDevice (s : State) (target : Word) : Prop :=
  hi target ≠ hi (s.pc + 2#16) ∧ s.kindOf (join (hi (s.pc + 2#16)) (lo target)) = .io

/-- The 105 undefined op codes, row by row (R99). -/
def undefinedOpcodes : List Nat :=
  [0x02, 0x03, 0x04, 0x07, 0x0B, 0x0C, 0x0F] ++
  [0x12, 0x13, 0x14, 0x17, 0x1A, 0x1B, 0x1C, 0x1F] ++
  [0x22, 0x23, 0x27, 0x2B, 0x2F] ++
  [0x32, 0x33, 0x34, 0x37, 0x3A, 0x3B, 0x3C, 0x3F] ++
  [0x42, 0x43, 0x44, 0x47, 0x4B, 0x4F] ++
  [0x52, 0x53, 0x54, 0x57, 0x5A, 0x5B, 0x5C, 0x5F] ++
  [0x62, 0x63, 0x64, 0x67, 0x6B, 0x6F] ++
  [0x72, 0x73, 0x74, 0x77, 0x7A, 0x7B, 0x7C, 0x7F] ++
  [0x80, 0x82, 0x83, 0x87, 0x89, 0x8B, 0x8F] ++
  [0x92, 0x93, 0x97, 0x9B, 0x9C, 0x9E, 0x9F] ++
  [0xA3, 0xA7, 0xAB, 0xAF] ++
  [0xB2, 0xB3, 0xB7, 0xBB, 0xBF] ++
  [0xC2, 0xC3, 0xC7, 0xCB, 0xCF] ++
  [0xD2, 0xD3, 0xD4, 0xD7, 0xDA, 0xDB, 0xDC, 0xDF] ++
  [0xE2, 0xE3, 0xE7, 0xEB, 0xEF] ++
  [0xF2, 0xF3, 0xF4, 0xF7, 0xFA, 0xFB, 0xFC, 0xFF]

/-- How far an instruction moves S (R41); TXS, which sets it, apart. -/
def stackMove : Mnemonic → Int
  | .pha => -1 | .php => -1 | .jsr => -2 | .brk => -3
  | .pla => 1 | .plp => 1 | .rts => 2 | .rti => 3
  | _ => 0

/-- One instruction executed `n` times in a row. -/
def execRepeated : Nat → Instr → State → Out
  | 0, _, s => .next s
  | n + 1, i, s =>
    match exec i s with
    | .next t => execRepeated n i t
    | .fault r => .fault r
    | .refused r => .refused r

/-- Two outcomes agree but for D: the same stop, or next states that are equal once D is set alike. -/
def sameButD : Out → Out → Prop
  | .next t, .next u => ({ t with fD := false } : State) = { u with fD := false }
  | .fault r, .fault q => r = q
  | .refused r, .refused q => r = q
  | _, _ => False

end Sys2Proof.Claims

open Sys2Proof Sys2Proof.Machine Sys2Proof.Safety Sys2Proof.Claims

/-- For every instruction, with every operand at every value, decoding its encoding followed by any bytes
answers that instruction and those bytes. (R80, R81, R82, R83, R98.) -/
def Obligations.DecodeOfEncode : Prop :=
  ∀ (i : Instr) (rest : List Byte), decode (encode i ++ rest) = .ok (i, rest)

/-- Whenever bytes decode to an instruction and a rest, they are that instruction's encoding followed by the
rest: no two byte strings mean one instruction. (R80, R81, R82, R83, R98.) -/
def Obligations.EncodeOfDecode : Prop :=
  ∀ (bytes rest : List Byte) (i : Instr), decode bytes = .ok (i, rest) → bytes = encode i ++ rest

/-- An op code byte decodes to nothing exactly when it is one of the 105 undefined values, the decoder then
names it whatever follows, and every byte whose low nibble is 3, 7, B or F is one of them. (R99.) -/
def Obligations.UndefinedOpcodes : Prop :=
  undefinedOpcodes.length = 105 ∧
    ∀ (opc : Byte) (rest : List Byte),
      (decodeOpcode opc = none ↔ opc.toNat ∈ undefinedOpcodes) ∧
      (opc.toNat ∈ undefinedOpcodes → decode (opc :: rest) = .error (.undefinedOpcode opc)) ∧
      (opc.toNat % 16 ∈ [0x3, 0x7, 0xB, 0xF] → opc.toNat ∈ undefinedOpcodes)

/-- When a boundary brings no interrupt or reset and the byte read at PC, in whatever region PC lies, is one of
the 105 undefined values, the step is the fault illegalOpcode with that byte and that address: nothing is
pushed, no vector is taken. In RAM and ROM that byte is the one memory holds. (R99.) -/
def Obligations.UndefinedOpcodeStopsTheStep : Prop :=
  ∀ (s u : State), s.sample.recognise = (.instruction, u) →
    ((u.readByte u.pc).1.toNat ∈ undefinedOpcodes →
      step s = .fault (.illegalOpcode (u.readByte u.pc).1 u.pc)) ∧
    (Backed u u.pc → (u.mem.read u.pc).toNat ∈ undefinedOpcodes →
      step s = .fault (.illegalOpcode (u.mem.read u.pc) u.pc))

/-- The object codes the spec prints (B5 80, BD 80 00, 2C A2 20, A9 0C, 6C 97 55, 20 97 55, 8C 00 44, 4D 00 44,
70 7F, B8, 00) decode to the instructions they stand for. (R81, R83, R101, R103.) -/
def Obligations.WrittenWordsDecode : Prop :=
  decode [0xB5, 0x80] = .ok (.ldaZpx 0x80, []) ∧ decode [0xBD, 0x80, 0x00] = .ok (.ldaAbx 0x0080, []) ∧
    decode [0x2C, 0xA2, 0x20] = .ok (.bitAbs 0x20A2, []) ∧ decode [0xA9, 0x0C] = .ok (.ldaImm 12, []) ∧
    decode [0x6C, 0x97, 0x55] = .ok (.jmpInd 0x5597, []) ∧ decode [0x20, 0x97, 0x55] = .ok (.jsr 0x5597, []) ∧
    decode [0x8C, 0x00, 0x44] = .ok (.styAbs 0x4400, []) ∧ decode [0x4D, 0x00, 0x44] = .ok (.eorAbs 0x4400, []) ∧
    decode [0x70, 0x7F] = .ok (.bvs 0x7F, []) ∧ decode [0xB8] = .ok (.clv, []) ∧ decode [0x00] = .ok (.brk, [])

/-- When a boundary brings no interrupt or reset: if the bytes at PC, all in RAM or ROM and wrapping at $FFFF,
decode to an instruction, the step is that instruction executed at that state (the state after the inputs are
sampled). In any region, I/O and unmapped addresses among them, if the bytes read one after another at PC, as
many as an instruction is long, decode to it, the step is it executed at the state after those reads. One of the
two always holds: such reads decode, or the op code read is undefined and the step is the fault. (R11, R57, R70,
R83, R84, R99.) -/
def Obligations.StepRunsTheDecodedInstruction : Prop :=
  ∀ (s u : State), s.sample.recognise = (.instruction, u) →
    (∀ (i : Instr) (rest : List Byte),
      decode [u.mem.read u.pc, u.mem.read (u.pc + 1#16), u.mem.read (u.pc + 2#16)] = .ok (i, rest) →
      WellFormed i = true →
      (∀ k < i.length, Backed u (u.pc + BitVec.ofNat 16 k)) →
        step s = exec i u) ∧
    (∀ i : Instr, decode (readFrom i.length u.pc u).1 = .ok (i, []) →
      step s = exec i (readFrom i.length u.pc u).2) ∧
    ((∃ i : Instr, decode (readFrom i.length u.pc u).1 = .ok (i, [])) ∨
      ((u.readByte u.pc).1.toNat ∈ undefinedOpcodes ∧
        step s = .fault (.illegalOpcode (u.readByte u.pc).1 u.pc)))

/-- From every state, after withFetchWord with the bits of an instruction, the next step executes exactly that
instruction (the model's choice of how a program is placed, log entry 21). (R84, R252.) -/
def Obligations.PlacedInstructionRuns : Prop :=
  ∀ (s : State) (nbits w : Nat) (i : Instr), decodeTableWord nbits w = some i →
    step (s.withFetchWord nbits w) = exec i (s.withFetchWord nbits w)

/-- A label has a displacement exactly when it lies from a - 126 to a + 129 (mod 65536), the displacement is
(label - (a + 2)) mod 256, and each of the eight branches at a with it, when taken, goes to the label, unless
the page crossing could touch a device with side effects (refused, log entry 7). (R96, R108, R170.) -/
def Obligations.BranchDisplacementReachesTheLabel : Prop :=
  ∀ (a label : Word),
    ((branchDisplacement a label).isSome ↔ ∃ k : Int, -126 ≤ k ∧ k ≤ 129 ∧ label = a + BitVec.ofInt 16 k) ∧
    ∀ d : Byte, branchDisplacement a label = some d →
      (d.toNat : Int) = ((label.toNat : Int) - (a.toNat + 2)) % 256 ∧
      ∀ s : State, s.pc = a → ¬ crossesToDevice s label →
        ∀ i : Instr, (i, true) ∈ branches d s → exec i s = .next { after 2 s with pc := label }

/-- Pushing target - 1, high byte first, as two PHA do, and then executing RTS continues at the target with S as
before the pushes. (R109, R184.) -/
def Obligations.FalseReturnAddressReachesTheTarget : Prop :=
  ∀ (s : State) (target : Word), ∃ t u : State,
    exec .pha { s with a := hi (falseReturnAddress target) } = .next t ∧
    exec .pha { t with a := lo (falseReturnAddress target) } = .next u ∧
    ∃ r : State, exec .rts u = .next r ∧ r.pc = target ∧ r.sp = s.sp

/-- RAM and ROM: a read is the byte held and changes nothing. I/O: a read is some byte, one draw is taken and
the device sees the read. Unmapped: a read is some byte and one draw is taken. RAM takes a write; ROM and
unmapped addresses ignore it; a device sees it. Log entries 5 and 6 name what is the model's (the ROM default is
the spec's; the device log is the model's). (20_memory.md section 3, R57.) -/
def Obligations.AccessByRegion : Prop :=
  ∀ (s : State) (a : Word) (b : Byte),
    (Backed s a → s.readByte a = (s.mem.read a, s)) ∧
    (s.kindOf a = .io ∨ s.kindOf a = .ioHarmless → ∃ v : Byte,
      s.readByte a = (v, { s with draws := s.draws + 1, devLog := .read a v :: s.devLog })) ∧
    (s.kindOf a = .unmapped → ∃ v : Byte, s.readByte a = (v, { s with draws := s.draws + 1 })) ∧
    (s.kindOf a = .ram → s.writeByte a b = { s with mem := s.mem.write a b }) ∧
    (s.kindOf a = .rom → s.writeByte a b = s) ∧
    (s.kindOf a = .io ∨ s.kindOf a = .ioHarmless →
      s.writeByte a b = { s with devLog := .write a b :: s.devLog }) ∧
    (s.kindOf a = .unmapped → s.writeByte a b = s)

/-- After a store of any form of STA, STX or STY to a RAM address, every load of any form of LDA, LDX or LDY
that R69 does not refuse completes: from that address it gives the byte stored, and from any other address in
RAM or ROM what that address held before. (R52, R63.) -/
def Obligations.LoadReturnsTheLatestStore : Prop :=
  ∀ (s t : State) (st ld : Instr) (f g : MemForm),
    st.mnemonic ∈ [.sta, .stx, .sty] → Instr.memForm st = some f →
    ld.mnemonic ∈ [.lda, .ldx, .ldy] → Instr.memForm ld = some g →
    s.kindOf (f.ea s) = .ram → exec st s = .next t → g.refuses t = false →
      ∃ u : State, exec ld t = .next u ∧
        (g.ea t = f.ea s → registerOf ld.mnemonic u = registerOf st.mnemonic s) ∧
        (g.ea t ≠ f.ea s → Backed s (g.ea t) → registerOf ld.mnemonic u = s.mem.read (g.ea t))

/-- Zero-page sums and zero-page pointer fetches wrap mod 256, 16-bit sums mod 65536, and pointers are little-
endian words of page 0. (R55, R56, R88, R89, R90, R91, R92, R93, R94, R95.) -/
def Obligations.EffectiveAddresses : Prop :=
  ∀ (s : State) (b : Byte) (w : Word),
    let pointer (z : Nat) : Nat :=
      (s.mem.read (BitVec.ofNat 16 ((z + 1) % 256))).toNat * 256 + (s.mem.read (BitVec.ofNat 16 z)).toNat
    (MemForm.ea (.zp b) s).toNat = b.toNat ∧
    (MemForm.ea (.zpx b) s).toNat = (b.toNat + s.x.toNat) % 256 ∧
    (MemForm.ea (.zpy b) s).toNat = (b.toNat + s.y.toNat) % 256 ∧
    (MemForm.ea (.abs w) s).toNat = w.toNat ∧
    (MemForm.ea (.abx w) s).toNat = (w.toNat + s.x.toNat) % 65536 ∧
    (MemForm.ea (.aby w) s).toNat = (w.toNat + s.y.toNat) % 65536 ∧
    (MemForm.ea (.izx b) s).toNat = pointer ((b.toNat + s.x.toNat) % 256) ∧
    (MemForm.ea (.izy b) s).toNat = (pointer b.toNat + s.y.toNat) % 65536

/-- Push stores at $0100 + S and then decrements S mod 256; Pull increments S first and then reads; so Push(b)
followed by Pull() returns b and restores S, for every S. (R59, R60.) -/
def Obligations.PullUndoesPush : Prop :=
  ∀ (s : State) (b : Byte),
    s.push b = { s with mem := s.mem.write (stackCell s.sp) b, sp := s.sp - 1#8 } ∧
    s.pull = (s.mem.read (stackCell (s.sp + 1#8)), { s with sp := s.sp + 1#8 }) ∧
    (s.push b).pull = (b, { s with mem := s.mem.write (stackCell s.sp) b })

/-- For every form: the row's op code, length and TIM; the register takes the operand byte, N is its bit 7 and Z
says it is zero; PC moves past the instruction; no other register, flag or byte of memory changes. A form R69
refuses is the other case. (R121, R122, R123.) -/
def Obligations.LoadResults : Prop :=
  ∀ (s : State) (v b : Byte) (w : Word),
    (encode (.ldaImm v) = [0xA9, v] ∧ Instr.tim (.ldaImm v) = (2, false) ∧
      exec (.ldaImm v) s = .next { after 2 s with a := v, fN := (v).getLsbD 7, fZ := v == 0#8 }) ∧
    (encode (.ldxImm v) = [0xA2, v] ∧ Instr.tim (.ldxImm v) = (2, false) ∧
      exec (.ldxImm v) s = .next { after 2 s with x := v, fN := (v).getLsbD 7, fZ := v == 0#8 }) ∧
    (encode (.ldyImm v) = [0xA0, v] ∧ Instr.tim (.ldyImm v) = (2, false) ∧
      exec (.ldyImm v) s = .next { after 2 s with y := v, fN := (v).getLsbD 7, fZ := v == 0#8 }) ∧
    (∀ r ∈ ([
        ⟨.ldaZp b, .zp b, 0xA5, (3, false)⟩, ⟨.ldaZpx b, .zpx b, 0xB5, (4, false)⟩,
        ⟨.ldaAbs w, .abs w, 0xAD, (4, false)⟩, ⟨.ldaAbx w, .abx w, 0xBD, (4, true)⟩,
        ⟨.ldaAby w, .aby w, 0xB9, (4, true)⟩, ⟨.ldaIzx b, .izx b, 0xA1, (6, false)⟩,
        ⟨.ldaIzy b, .izy b, 0xB1, (5, true)⟩] : List MemRow), r.encoded ∧
      (r.form.refuses s = false → exec r.instr s = .next { afterOperand s r.form with
        a := operandByte s r.form, fN := (operandByte s r.form).getLsbD 7, fZ := operandByte s r.form == 0#8 })) ∧
    (∀ r ∈ ([
        ⟨.ldxZp b, .zp b, 0xA6, (3, false)⟩, ⟨.ldxZpy b, .zpy b, 0xB6, (4, false)⟩,
        ⟨.ldxAbs w, .abs w, 0xAE, (4, false)⟩, ⟨.ldxAby w, .aby w, 0xBE, (4, true)⟩] : List MemRow), r.encoded ∧
      (r.form.refuses s = false → exec r.instr s = .next { afterOperand s r.form with
        x := operandByte s r.form, fN := (operandByte s r.form).getLsbD 7, fZ := operandByte s r.form == 0#8 })) ∧
    (∀ r ∈ ([
        ⟨.ldyZp b, .zp b, 0xA4, (3, false)⟩, ⟨.ldyZpx b, .zpx b, 0xB4, (4, false)⟩,
        ⟨.ldyAbs w, .abs w, 0xAC, (4, false)⟩, ⟨.ldyAbx w, .abx w, 0xBC, (4, true)⟩] : List MemRow), r.encoded ∧
      (r.form.refuses s = false → exec r.instr s = .next { afterOperand s r.form with
        y := operandByte s r.form, fN := (operandByte s r.form).getLsbD 7, fZ := operandByte s r.form == 0#8 }))

/-- For every form: the row's op code, length and TIM; the register's byte is written to the effective address;
PC moves past the instruction; no register or flag changes; in RAM the address then reads as the byte, and every
other address reads as before. (R124, R125, R126.) -/
def Obligations.StoreResults : Prop :=
  ∀ (s : State) (b : Byte) (w : Word),
    (∀ r ∈ ([
        ⟨.staZp b, .zp b, 0x85, (3, false)⟩, ⟨.staZpx b, .zpx b, 0x95, (4, false)⟩,
        ⟨.staAbs w, .abs w, 0x8D, (4, false)⟩, ⟨.staAbx w, .abx w, 0x9D, (5, false)⟩,
        ⟨.staAby w, .aby w, 0x99, (5, false)⟩, ⟨.staIzx b, .izx b, 0x81, (6, false)⟩,
        ⟨.staIzy b, .izy b, 0x91, (6, false)⟩] : List MemRow), r.encoded ∧
      (r.form.refuses s = false →
        exec r.instr s = .next { s.writeByte (r.form.ea s) s.a with pc := s.pc + BitVec.ofNat 16 r.form.length, iBefore := s.fI } ∧
        storesOnly s (s.writeByte (r.form.ea s) s.a) (r.form.ea s) s.a)) ∧
    (∀ r ∈ ([
        ⟨.stxZp b, .zp b, 0x86, (3, false)⟩, ⟨.stxZpy b, .zpy b, 0x96, (4, false)⟩,
        ⟨.stxAbs w, .abs w, 0x8E, (4, false)⟩] : List MemRow), r.encoded ∧
      (r.form.refuses s = false →
        exec r.instr s = .next { s.writeByte (r.form.ea s) s.x with pc := s.pc + BitVec.ofNat 16 r.form.length, iBefore := s.fI } ∧
        storesOnly s (s.writeByte (r.form.ea s) s.x) (r.form.ea s) s.x)) ∧
    (∀ r ∈ ([
        ⟨.styZp b, .zp b, 0x84, (3, false)⟩, ⟨.styZpx b, .zpx b, 0x94, (4, false)⟩,
        ⟨.styAbs w, .abs w, 0x8C, (4, false)⟩] : List MemRow), r.encoded ∧
      (r.form.refuses s = false →
        exec r.instr s = .next { s.writeByte (r.form.ea s) s.y with pc := s.pc + BitVec.ofNat 16 r.form.length, iBefore := s.fI } ∧
        storesOnly s (s.writeByte (r.form.ea s) s.y) (r.form.ea s) s.y))

/-- For every form, when D is 0: the row's op code, length and TIM; A takes the sum of A, the operand and C mod
256; C, V, N and Z as the rule says, V by the exact signed result; PC moves past the instruction; nothing else
changes. (41_arithmetic.md, R130.) -/
def Obligations.AddBinaryResults : Prop :=
  ∀ (s : State) (v b : Byte) (w : Word), s.fD = false →
    (encode (.adcImm v) = [0x69, v] ∧ Instr.tim (.adcImm v) = (2, false) ∧
      exec (.adcImm v) s = .next (added s v (after 2 s))) ∧
    (∀ r ∈ ([
        ⟨.adcZp b, .zp b, 0x65, (3, false)⟩, ⟨.adcZpx b, .zpx b, 0x75, (4, false)⟩,
        ⟨.adcAbs w, .abs w, 0x6D, (4, false)⟩, ⟨.adcAbx w, .abx w, 0x7D, (4, true)⟩,
        ⟨.adcAby w, .aby w, 0x79, (4, true)⟩, ⟨.adcIzx b, .izx b, 0x61, (6, false)⟩,
        ⟨.adcIzy b, .izy b, 0x71, (5, true)⟩] : List MemRow), r.encoded ∧
      (r.form.refuses s = false → exec r.instr s = .next (added s (operandByte s r.form) (afterOperand s r.form))))

/-- For every form, when D is 0: the row's op code, length and TIM; A takes A minus the operand minus the
inverse of C mod 256; C, V, N and Z as the rule says, V by the exact signed result; PC moves past the
instruction; nothing else changes. (41_arithmetic.md, R131.) -/
def Obligations.SubtractBinaryResults : Prop :=
  ∀ (s : State) (v b : Byte) (w : Word), s.fD = false →
    (encode (.sbcImm v) = [0xE9, v] ∧ Instr.tim (.sbcImm v) = (2, false) ∧
      exec (.sbcImm v) s = .next (subtracted s v (after 2 s))) ∧
    (∀ r ∈ ([
        ⟨.sbcZp b, .zp b, 0xE5, (3, false)⟩, ⟨.sbcZpx b, .zpx b, 0xF5, (4, false)⟩,
        ⟨.sbcAbs w, .abs w, 0xED, (4, false)⟩, ⟨.sbcAbx w, .abx w, 0xFD, (4, true)⟩,
        ⟨.sbcAby w, .aby w, 0xF9, (4, true)⟩, ⟨.sbcIzx b, .izx b, 0xE1, (6, false)⟩,
        ⟨.sbcIzy b, .izy b, 0xF1, (5, true)⟩] : List MemRow), r.encoded ∧
      (r.form.refuses s = false → exec r.instr s = .next (subtracted s (operandByte s r.form) (afterOperand s r.form))))

/-- That A and C are exact on packed BCD operands and that N, V, Z are open is the spec's own reading of its
source's words and this model's log entry 27 (DESIGN CHOICE), no rule of the source. For every form, when D is
1: on valid packed BCD operands A and C are the decimal result and its carry (or no-borrow) and N, V, Z are some
bits; on other operands A, C, N, V, Z are some values. Either way PC moves past the instruction and nothing else
changes but the count of draws. (41_arithmetic.md, R132.) -/
def Obligations.AddDecimalResults : Prop :=
  ∀ (s : State) (v b : Byte) (w : Word), s.fD = true →
    (∃ t : State, exec (.adcImm v) s = .next t ∧ decimalAdd s v (after 2 s) t) ∧
    (∀ r ∈ ([
        ⟨.adcZp b, .zp b, 0x65, (3, false)⟩, ⟨.adcZpx b, .zpx b, 0x75, (4, false)⟩,
        ⟨.adcAbs w, .abs w, 0x6D, (4, false)⟩, ⟨.adcAbx w, .abx w, 0x7D, (4, true)⟩,
        ⟨.adcAby w, .aby w, 0x79, (4, true)⟩, ⟨.adcIzx b, .izx b, 0x61, (6, false)⟩,
        ⟨.adcIzy b, .izy b, 0x71, (5, true)⟩] : List MemRow), r.form.refuses s = false →
      ∃ t : State, exec r.instr s = .next t ∧ decimalAdd s (operandByte s r.form) (afterOperand s r.form) t)

/-- That A and C are exact on packed BCD operands and that N, V, Z are open is the spec's own reading of its
source's words and this model's log entry 27 (DESIGN CHOICE), no rule of the source. For every form, when D is
1: on valid packed BCD operands A and C are the decimal result and its carry (or no-borrow) and N, V, Z are some
bits; on other operands A, C, N, V, Z are some values. Either way PC moves past the instruction and nothing else
changes but the count of draws. (41_arithmetic.md, R133.) -/
def Obligations.SubtractDecimalResults : Prop :=
  ∀ (s : State) (v b : Byte) (w : Word), s.fD = true →
    (∃ t : State, exec (.sbcImm v) s = .next t ∧ decimalSub s v (after 2 s) t) ∧
    (∀ r ∈ ([
        ⟨.sbcZp b, .zp b, 0xE5, (3, false)⟩, ⟨.sbcZpx b, .zpx b, 0xF5, (4, false)⟩,
        ⟨.sbcAbs w, .abs w, 0xED, (4, false)⟩, ⟨.sbcAbx w, .abx w, 0xFD, (4, true)⟩,
        ⟨.sbcAby w, .aby w, 0xF9, (4, true)⟩, ⟨.sbcIzx b, .izx b, 0xE1, (6, false)⟩,
        ⟨.sbcIzy b, .izy b, 0xF1, (5, true)⟩] : List MemRow), r.form.refuses s = false →
      ∃ t : State, exec r.instr s = .next t ∧ decimalSub s (operandByte s r.form) (afterOperand s r.form) t)

/-- For every form: the row's op code, length and TIM; C says register >= operand unsigned, Z says they are
equal, N is bit 7 of the difference; the register, V, D and everything else but PC are unchanged, whatever D
holds. (R134, R135, R136.) -/
def Obligations.CompareResults : Prop :=
  ∀ (s : State) (v b : Byte) (w : Word),
    (encode (.cmpImm v) = [0xC9, v] ∧ Instr.tim (.cmpImm v) = (2, false) ∧
      exec (.cmpImm v) s = .next (compared s.a v (after 2 s))) ∧
    (encode (.cpxImm v) = [0xE0, v] ∧ Instr.tim (.cpxImm v) = (2, false) ∧
      exec (.cpxImm v) s = .next (compared s.x v (after 2 s))) ∧
    (encode (.cpyImm v) = [0xC0, v] ∧ Instr.tim (.cpyImm v) = (2, false) ∧
      exec (.cpyImm v) s = .next (compared s.y v (after 2 s))) ∧
    (∀ r ∈ ([
        ⟨.cmpZp b, .zp b, 0xC5, (3, false)⟩, ⟨.cmpZpx b, .zpx b, 0xD5, (4, false)⟩,
        ⟨.cmpAbs w, .abs w, 0xCD, (4, false)⟩, ⟨.cmpAbx w, .abx w, 0xDD, (4, true)⟩,
        ⟨.cmpAby w, .aby w, 0xD9, (4, true)⟩, ⟨.cmpIzx b, .izx b, 0xC1, (6, false)⟩,
        ⟨.cmpIzy b, .izy b, 0xD1, (5, true)⟩] : List MemRow), r.encoded ∧
      (r.form.refuses s = false → exec r.instr s = .next (compared s.a (operandByte s r.form) (afterOperand s r.form)))) ∧
    (∀ r ∈ ([
        ⟨.cpxZp b, .zp b, 0xE4, (3, false)⟩, ⟨.cpxAbs w, .abs w, 0xEC, (4, false)⟩] : List MemRow), r.encoded ∧
      (r.form.refuses s = false → exec r.instr s = .next (compared s.x (operandByte s r.form) (afterOperand s r.form)))) ∧
    (∀ r ∈ ([
        ⟨.cpyZp b, .zp b, 0xC4, (3, false)⟩, ⟨.cpyAbs w, .abs w, 0xCC, (4, false)⟩] : List MemRow), r.encoded ∧
      (r.form.refuses s = false → exec r.instr s = .next (compared s.y (operandByte s r.form) (afterOperand s r.form))))

/-- For every form: the row's op code, length and TIM; A takes the bitwise operation of A with the operand, N
and Z follow it; nothing else but PC changes. (R140, R142, R143.) -/
def Obligations.LogicResults : Prop :=
  ∀ (s : State) (v b : Byte) (w : Word),
    (encode (.andImm v) = [0x29, v] ∧ Instr.tim (.andImm v) = (2, false) ∧
      exec (.andImm v) s = .next { after 2 s with a := (s.a &&& v), fN := ((s.a &&& v)).getLsbD 7, fZ := (s.a &&& v) == 0#8 }) ∧
    (encode (.eorImm v) = [0x49, v] ∧ Instr.tim (.eorImm v) = (2, false) ∧
      exec (.eorImm v) s = .next { after 2 s with a := (s.a ^^^ v), fN := ((s.a ^^^ v)).getLsbD 7, fZ := (s.a ^^^ v) == 0#8 }) ∧
    (encode (.oraImm v) = [0x09, v] ∧ Instr.tim (.oraImm v) = (2, false) ∧
      exec (.oraImm v) s = .next { after 2 s with a := (s.a ||| v), fN := ((s.a ||| v)).getLsbD 7, fZ := (s.a ||| v) == 0#8 }) ∧
    (∀ r ∈ ([
        ⟨.andZp b, .zp b, 0x25, (3, false)⟩, ⟨.andZpx b, .zpx b, 0x35, (4, false)⟩,
        ⟨.andAbs w, .abs w, 0x2D, (4, false)⟩, ⟨.andAbx w, .abx w, 0x3D, (4, true)⟩,
        ⟨.andAby w, .aby w, 0x39, (4, true)⟩, ⟨.andIzx b, .izx b, 0x21, (6, false)⟩,
        ⟨.andIzy b, .izy b, 0x31, (5, true)⟩] : List MemRow), r.encoded ∧
      (r.form.refuses s = false → exec r.instr s = .next { afterOperand s r.form with
        a := (s.a &&& operandByte s r.form), fN := ((s.a &&& operandByte s r.form)).getLsbD 7, fZ := (s.a &&& operandByte s r.form) == 0#8 })) ∧
    (∀ r ∈ ([
        ⟨.eorZp b, .zp b, 0x45, (3, false)⟩, ⟨.eorZpx b, .zpx b, 0x55, (4, false)⟩,
        ⟨.eorAbs w, .abs w, 0x4D, (4, false)⟩, ⟨.eorAbx w, .abx w, 0x5D, (4, true)⟩,
        ⟨.eorAby w, .aby w, 0x59, (4, true)⟩, ⟨.eorIzx b, .izx b, 0x41, (6, false)⟩,
        ⟨.eorIzy b, .izy b, 0x51, (5, true)⟩] : List MemRow), r.encoded ∧
      (r.form.refuses s = false → exec r.instr s = .next { afterOperand s r.form with
        a := (s.a ^^^ operandByte s r.form), fN := ((s.a ^^^ operandByte s r.form)).getLsbD 7, fZ := (s.a ^^^ operandByte s r.form) == 0#8 })) ∧
    (∀ r ∈ ([
        ⟨.oraZp b, .zp b, 0x05, (3, false)⟩, ⟨.oraZpx b, .zpx b, 0x15, (4, false)⟩,
        ⟨.oraAbs w, .abs w, 0x0D, (4, false)⟩, ⟨.oraAbx w, .abx w, 0x1D, (4, true)⟩,
        ⟨.oraAby w, .aby w, 0x19, (4, true)⟩, ⟨.oraIzx b, .izx b, 0x01, (6, false)⟩,
        ⟨.oraIzy b, .izy b, 0x11, (5, true)⟩] : List MemRow), r.encoded ∧
      (r.form.refuses s = false → exec r.instr s = .next { afterOperand s r.form with
        a := (s.a ||| operandByte s r.form), fN := ((s.a ||| operandByte s r.form)).getLsbD 7, fZ := (s.a ||| operandByte s r.form) == 0#8 }))

/-- Z says that A AND the operand is zero, N and V are bits 7 and 6 of the operand; A, C and everything else but
PC are unchanged; the operand is really read. (R141.) -/
def Obligations.BitTestResults : Prop :=
  ∀ (s : State) (b : Byte) (w : Word),
    (∀ r ∈ ([
        ⟨.bitZp b, .zp b, 0x24, (3, false)⟩, ⟨.bitAbs w, .abs w, 0x2C, (4, false)⟩] : List MemRow), r.encoded ∧
      (r.form.refuses s = false → exec r.instr s = .next { afterOperand s r.form with
        fZ := (s.a &&& operandByte s r.form) == 0#8, fN := (operandByte s r.form).getLsbD 7, fV := (operandByte s r.form).getLsbD 6 }))

/-- The byte (A, or the byte at the effective address, read once and written once) is shifted by one; C takes
the bit shifted out, N and Z follow the byte stored; V, the other registers and every other byte of memory are
unchanged; in the memory forms A, X and Y are unchanged. (R150, R151.) -/
def Obligations.ShiftResults : Prop :=
  ∀ (s : State) (b : Byte) (w : Word),
    (encode .aslAcc = [0x0A] ∧ Instr.tim .aslAcc = (2, false) ∧
      (let old := s.a
       exec .aslAcc s = .next { after 1 s with
        a := BitVec.ofNat 8 (old.toNat * 2), fC := old.getLsbD 7, fN := (BitVec.ofNat 8 (old.toNat * 2)).getLsbD 7, fZ := BitVec.ofNat 8 (old.toNat * 2) == 0#8 })) ∧
    (∀ r ∈ ([
        ⟨.aslZp b, .zp b, 0x06, (5, false)⟩, ⟨.aslZpx b, .zpx b, 0x16, (6, false)⟩,
        ⟨.aslAbs w, .abs w, 0x0E, (6, false)⟩, ⟨.aslAbx w, .abx w, 0x1E, (7, false)⟩] : List MemRow), r.encoded ∧
      (r.form.hitsDevice s = false →
        let old := operandByte s r.form
        modifies s r (BitVec.ofNat 8 (old.toNat * 2))
          (fun t => { t with fC := old.getLsbD 7, fN := (BitVec.ofNat 8 (old.toNat * 2)).getLsbD 7, fZ := BitVec.ofNat 8 (old.toNat * 2) == 0#8 }))) ∧
    (encode .lsrAcc = [0x4A] ∧ Instr.tim .lsrAcc = (2, false) ∧
      (let old := s.a
       exec .lsrAcc s = .next { after 1 s with
        a := BitVec.ofNat 8 (old.toNat / 2), fC := old.getLsbD 0, fN := (BitVec.ofNat 8 (old.toNat / 2)).getLsbD 7, fZ := BitVec.ofNat 8 (old.toNat / 2) == 0#8 })) ∧
    (∀ r ∈ ([
        ⟨.lsrZp b, .zp b, 0x46, (5, false)⟩, ⟨.lsrZpx b, .zpx b, 0x56, (6, false)⟩,
        ⟨.lsrAbs w, .abs w, 0x4E, (6, false)⟩, ⟨.lsrAbx w, .abx w, 0x5E, (7, false)⟩] : List MemRow), r.encoded ∧
      (r.form.hitsDevice s = false →
        let old := operandByte s r.form
        modifies s r (BitVec.ofNat 8 (old.toNat / 2))
          (fun t => { t with fC := old.getLsbD 0, fN := (BitVec.ofNat 8 (old.toNat / 2)).getLsbD 7, fZ := BitVec.ofNat 8 (old.toNat / 2) == 0#8 })))

/-- The byte (A, or the byte at the effective address, read once and written once) is rotated through C by one;
C takes the bit shifted out, N and Z follow the byte stored; V, the other registers and every other byte of
memory are unchanged; in the memory forms A, X and Y are unchanged. (R152, R153.) -/
def Obligations.RotateResults : Prop :=
  ∀ (s : State) (b : Byte) (w : Word),
    (encode .rolAcc = [0x2A] ∧ Instr.tim .rolAcc = (2, false) ∧
      (let old := s.a
       exec .rolAcc s = .next { after 1 s with
        a := BitVec.ofNat 8 (old.toNat * 2 % 256 + s.fC.toNat), fC := old.getLsbD 7, fN := (BitVec.ofNat 8 (old.toNat * 2 % 256 + s.fC.toNat)).getLsbD 7, fZ := BitVec.ofNat 8 (old.toNat * 2 % 256 + s.fC.toNat) == 0#8 })) ∧
    (∀ r ∈ ([
        ⟨.rolZp b, .zp b, 0x26, (5, false)⟩, ⟨.rolZpx b, .zpx b, 0x36, (6, false)⟩,
        ⟨.rolAbs w, .abs w, 0x2E, (6, false)⟩, ⟨.rolAbx w, .abx w, 0x3E, (7, false)⟩] : List MemRow), r.encoded ∧
      (r.form.hitsDevice s = false →
        let old := operandByte s r.form
        modifies s r (BitVec.ofNat 8 (old.toNat * 2 % 256 + s.fC.toNat))
          (fun t => { t with fC := old.getLsbD 7, fN := (BitVec.ofNat 8 (old.toNat * 2 % 256 + s.fC.toNat)).getLsbD 7, fZ := BitVec.ofNat 8 (old.toNat * 2 % 256 + s.fC.toNat) == 0#8 }))) ∧
    (encode .rorAcc = [0x6A] ∧ Instr.tim .rorAcc = (2, false) ∧
      (let old := s.a
       exec .rorAcc s = .next { after 1 s with
        a := BitVec.ofNat 8 (old.toNat / 2 + 128 * s.fC.toNat), fC := old.getLsbD 0, fN := (BitVec.ofNat 8 (old.toNat / 2 + 128 * s.fC.toNat)).getLsbD 7, fZ := BitVec.ofNat 8 (old.toNat / 2 + 128 * s.fC.toNat) == 0#8 })) ∧
    (∀ r ∈ ([
        ⟨.rorZp b, .zp b, 0x66, (5, false)⟩, ⟨.rorZpx b, .zpx b, 0x76, (6, false)⟩,
        ⟨.rorAbs w, .abs w, 0x6E, (6, false)⟩, ⟨.rorAbx w, .abx w, 0x7E, (7, false)⟩] : List MemRow), r.encoded ∧
      (r.form.hitsDevice s = false →
        let old := operandByte s r.form
        modifies s r (BitVec.ofNat 8 (old.toNat / 2 + 128 * s.fC.toNat))
          (fun t => { t with fC := old.getLsbD 0, fN := (BitVec.ofNat 8 (old.toNat / 2 + 128 * s.fC.toNat)).getLsbD 7, fZ := BitVec.ofNat 8 (old.toNat / 2 + 128 * s.fC.toNat) == 0#8 })))

/-- The byte at the effective address, read once and written once, is decremented or incremented mod 256; N and
Z follow the byte stored; C, V, A, X, Y and every other byte of memory are unchanged. (R160, R161.) -/
def Obligations.IncrementDecrementMemoryResults : Prop :=
  ∀ (s : State) (b : Byte) (w : Word),
    (∀ r ∈ ([
        ⟨.decZp b, .zp b, 0xC6, (5, false)⟩, ⟨.decZpx b, .zpx b, 0xD6, (6, false)⟩,
        ⟨.decAbs w, .abs w, 0xCE, (6, false)⟩, ⟨.decAbx w, .abx w, 0xDE, (7, false)⟩] : List MemRow), r.encoded ∧
      (r.form.hitsDevice s = false →
        let old := operandByte s r.form
        modifies s r (BitVec.ofInt 8 ((old.toNat : Int) - 1)) (fun t => { t with fN := (BitVec.ofInt 8 ((old.toNat : Int) - 1)).getLsbD 7, fZ := BitVec.ofInt 8 ((old.toNat : Int) - 1) == 0#8 }))) ∧
    (∀ r ∈ ([
        ⟨.incZp b, .zp b, 0xE6, (5, false)⟩, ⟨.incZpx b, .zpx b, 0xF6, (6, false)⟩,
        ⟨.incAbs w, .abs w, 0xEE, (6, false)⟩, ⟨.incAbx w, .abx w, 0xFE, (7, false)⟩] : List MemRow), r.encoded ∧
      (r.form.hitsDevice s = false →
        let old := operandByte s r.form
        modifies s r (BitVec.ofNat 8 (old.toNat + 1)) (fun t => { t with fN := (BitVec.ofNat 8 (old.toNat + 1)).getLsbD 7, fZ := BitVec.ofNat 8 (old.toNat + 1) == 0#8 })))

/-- One byte, two cycles; the register takes the transferred, incremented or decremented byte mod 256, N and Z
follow it; nothing else but PC changes. (R162, R163, R164, R165, R166, R167, R168, R169.) -/
def Obligations.RegisterInstructionResults : Prop :=
  ∀ s : State,
    (encode .tax = [0xAA] ∧ Instr.tim .tax = (2, false) ∧ exec .tax s = .next { after 1 s with x := s.a, fN := (s.a).getLsbD 7, fZ := s.a == 0#8 }) ∧
    (encode .txa = [0x8A] ∧ Instr.tim .txa = (2, false) ∧ exec .txa s = .next { after 1 s with a := s.x, fN := (s.x).getLsbD 7, fZ := s.x == 0#8 }) ∧
    (encode .dex = [0xCA] ∧ Instr.tim .dex = (2, false) ∧ exec .dex s = .next { after 1 s with x := (s.x - 1#8), fN := ((s.x - 1#8)).getLsbD 7, fZ := (s.x - 1#8) == 0#8 }) ∧
    (encode .inx = [0xE8] ∧ Instr.tim .inx = (2, false) ∧ exec .inx s = .next { after 1 s with x := (s.x + 1#8), fN := ((s.x + 1#8)).getLsbD 7, fZ := (s.x + 1#8) == 0#8 }) ∧
    (encode .tay = [0xA8] ∧ Instr.tim .tay = (2, false) ∧ exec .tay s = .next { after 1 s with y := s.a, fN := (s.a).getLsbD 7, fZ := s.a == 0#8 }) ∧
    (encode .tya = [0x98] ∧ Instr.tim .tya = (2, false) ∧ exec .tya s = .next { after 1 s with a := s.y, fN := (s.y).getLsbD 7, fZ := s.y == 0#8 }) ∧
    (encode .dey = [0x88] ∧ Instr.tim .dey = (2, false) ∧ exec .dey s = .next { after 1 s with y := (s.y - 1#8), fN := ((s.y - 1#8)).getLsbD 7, fZ := (s.y - 1#8) == 0#8 }) ∧
    (encode .iny = [0xC8] ∧ Instr.tim .iny = (2, false) ∧ exec .iny s = .next { after 1 s with y := (s.y + 1#8), fN := ((s.y + 1#8)).getLsbD 7, fZ := (s.y + 1#8) == 0#8 })

/-- For each branch: op code and displacement byte; when its condition holds PC becomes (a + 2 + signed
displacement) mod 65536, in 3 cycles or 4 if that lies on another page than a + 2; otherwise PC becomes a + 2,
in 2 cycles; no flag, register or byte of memory changes. A taken branch whose page crossing could touch a
device with side effects is refused (RefusedExactlyOnDevices; log entry 7). (R170, R171, R172, R173, R174, R175,
R176, R177, R178.) -/
def Obligations.BranchResults : Prop :=
  ∀ (s : State) (d : Byte),
    let target : Word := BitVec.ofInt 16 ((s.pc.toNat : Int) + 2 + d.toInt)
    (encode (.bpl d) = [0x10, d] ∧
      (s.fN = false → cycles (.bpl d) s = (if hi target = hi (s.pc + 2#16) then 3 else 4) ∧
        (¬ crossesToDevice s target → exec (.bpl d) s = .next { after 2 s with pc := target })) ∧
      (¬ s.fN = false → exec (.bpl d) s = .next (after 2 s) ∧ cycles (.bpl d) s = 2)) ∧
    (encode (.bmi d) = [0x30, d] ∧
      (s.fN = true → cycles (.bmi d) s = (if hi target = hi (s.pc + 2#16) then 3 else 4) ∧
        (¬ crossesToDevice s target → exec (.bmi d) s = .next { after 2 s with pc := target })) ∧
      (¬ s.fN = true → exec (.bmi d) s = .next (after 2 s) ∧ cycles (.bmi d) s = 2)) ∧
    (encode (.bvc d) = [0x50, d] ∧
      (s.fV = false → cycles (.bvc d) s = (if hi target = hi (s.pc + 2#16) then 3 else 4) ∧
        (¬ crossesToDevice s target → exec (.bvc d) s = .next { after 2 s with pc := target })) ∧
      (¬ s.fV = false → exec (.bvc d) s = .next (after 2 s) ∧ cycles (.bvc d) s = 2)) ∧
    (encode (.bvs d) = [0x70, d] ∧
      (s.fV = true → cycles (.bvs d) s = (if hi target = hi (s.pc + 2#16) then 3 else 4) ∧
        (¬ crossesToDevice s target → exec (.bvs d) s = .next { after 2 s with pc := target })) ∧
      (¬ s.fV = true → exec (.bvs d) s = .next (after 2 s) ∧ cycles (.bvs d) s = 2)) ∧
    (encode (.bcc d) = [0x90, d] ∧
      (s.fC = false → cycles (.bcc d) s = (if hi target = hi (s.pc + 2#16) then 3 else 4) ∧
        (¬ crossesToDevice s target → exec (.bcc d) s = .next { after 2 s with pc := target })) ∧
      (¬ s.fC = false → exec (.bcc d) s = .next (after 2 s) ∧ cycles (.bcc d) s = 2)) ∧
    (encode (.bcs d) = [0xB0, d] ∧
      (s.fC = true → cycles (.bcs d) s = (if hi target = hi (s.pc + 2#16) then 3 else 4) ∧
        (¬ crossesToDevice s target → exec (.bcs d) s = .next { after 2 s with pc := target })) ∧
      (¬ s.fC = true → exec (.bcs d) s = .next (after 2 s) ∧ cycles (.bcs d) s = 2)) ∧
    (encode (.bne d) = [0xD0, d] ∧
      (s.fZ = false → cycles (.bne d) s = (if hi target = hi (s.pc + 2#16) then 3 else 4) ∧
        (¬ crossesToDevice s target → exec (.bne d) s = .next { after 2 s with pc := target })) ∧
      (¬ s.fZ = false → exec (.bne d) s = .next (after 2 s) ∧ cycles (.bne d) s = 2)) ∧
    (encode (.beq d) = [0xF0, d] ∧
      (s.fZ = true → cycles (.beq d) s = (if hi target = hi (s.pc + 2#16) then 3 else 4) ∧
        (¬ crossesToDevice s target → exec (.beq d) s = .next { after 2 s with pc := target })) ∧
      (¬ s.fZ = true → exec (.beq d) s = .next (after 2 s) ∧ cycles (.beq d) s = 2))

/-- JMP Absolute goes to its operand. JMP Indirect takes the low byte of its target from the vector's address
and the high byte from the next address within the same page (no carry). Nothing else changes but what reading
the vector in unmapped or I/O addresses takes from the draws and tells a device. A vector in an I/O region with
side effects is refused (RefusedExactlyOnDevices). (R180, R181.) -/
def Obligations.JumpResults : Prop :=
  ∀ (s : State) (w : Word),
    let high : Word := BitVec.ofNat 16 (w.toNat / 256 * 256 + (w.toNat + 1) % 256)
    let l := s.readByte w
    let h := l.2.readByte high
    (encode (.jmpAbs w) = [0x4C, lo w, hi w] ∧ Instr.tim (.jmpAbs w) = (3, false) ∧
      exec (.jmpAbs w) s = .next { s with pc := w, iBefore := s.fI }) ∧
    (encode (.jmpInd w) = [0x6C, lo w, hi w] ∧ Instr.tim (.jmpInd w) = (5, false) ∧
      (s.kindOf w ≠ .io → s.kindOf high ≠ .io →
        exec (.jmpInd w) s = .next { s with pc := join h.1 l.1, iBefore := s.fI, draws := h.2.draws, devLog := h.2.devLog }))

/-- JSR pushes a + 2 mod 65536, high byte at $0100 + S and low byte below it, S falls by 2 and PC becomes the
operand. RTS pulls the low then the high byte, S rises by 2 and PC becomes the word plus 1 mod 65536. No flag or
other register changes; JSR changes two bytes of memory, RTS none. (R182, R183.) -/
def Obligations.SubroutineResults : Prop :=
  ∀ (s : State) (w : Word),
    (encode (.jsr w) = [0x20, lo w, hi w] ∧ Instr.tim (.jsr w) = (6, false) ∧
      exec (.jsr w) s = .next { s with
        pc := w, iBefore := s.fI, sp := s.sp - 2#8
        mem := (s.mem.write (stackCell s.sp) (hi (s.pc + 2#16))).write (stackCell (s.sp - 1#8)) (lo (s.pc + 2#16)) } ∧
      ∀ a : Word, a ≠ stackCell s.sp → a ≠ stackCell (s.sp - 1#8) →
        ((s.mem.write (stackCell s.sp) (hi (s.pc + 2#16))).write (stackCell (s.sp - 1#8)) (lo (s.pc + 2#16))).read a
          = s.mem.read a) ∧
    (encode .rts = [0x60] ∧ Instr.tim .rts = (6, false) ∧
      exec .rts s = .next { s with
        pc := join (s.mem.read (stackCell (s.sp + 2#8))) (s.mem.read (stackCell (s.sp + 1#8))) + 1#16
        iBefore := s.fI, sp := s.sp + 2#8 })

/-- One byte, two cycles; each writes its one flag with its constant and changes nothing else but PC; I_before
keeps the I of before. (R190, R191, R192, R193, R194, R195, R196.) -/
def Obligations.FlagInstructionResults : Prop :=
  ∀ s : State,
    (encode .clc = [0x18] ∧ Instr.tim .clc = (2, false) ∧ exec .clc s = .next { after 1 s with fC := false }) ∧
    (encode .sec = [0x38] ∧ Instr.tim .sec = (2, false) ∧ exec .sec s = .next { after 1 s with fC := true }) ∧
    (encode .cli = [0x58] ∧ Instr.tim .cli = (2, false) ∧ exec .cli s = .next { after 1 s with fI := false }) ∧
    (encode .sei = [0x78] ∧ Instr.tim .sei = (2, false) ∧ exec .sei s = .next { after 1 s with fI := true }) ∧
    (encode .clv = [0xB8] ∧ Instr.tim .clv = (2, false) ∧ exec .clv s = .next { after 1 s with fV := false }) ∧
    (encode .cld = [0xD8] ∧ Instr.tim .cld = (2, false) ∧ exec .cld s = .next { after 1 s with fD := false }) ∧
    (encode .sed = [0xF8] ∧ Instr.tim .sed = (2, false) ∧ exec .sed s = .next { after 1 s with fD := true })

/-- TXS copies X to S and changes no flag; TSX copies S to X with N and Z; PHA and PHP store A or the status
byte (bits 5 and 4 set) at $0100 + S and decrement S; PLA and PLP increment S and load A (with N and Z) or the
six flags from $0100 + S. Nothing else changes but PC; PHA and PHP change one byte of memory. (R200, R201, R202,
R203, R204, R205.) -/
def Obligations.StackInstructionResults : Prop :=
  ∀ s : State,
    let pulled : Byte := s.mem.read (stackCell (s.sp + 1#8))
    let status : Byte := pByte s true
    (encode .txs = [0x9A] ∧ Instr.tim .txs = (2, false) ∧ exec .txs s = .next { after 1 s with sp := s.x }) ∧
    (encode .tsx = [0xBA] ∧ Instr.tim .tsx = (2, false) ∧ exec .tsx s = .next { after 1 s with x := s.sp, fN := (s.sp).getLsbD 7, fZ := s.sp == 0#8 }) ∧
    (encode .pha = [0x48] ∧ Instr.tim .pha = (3, false) ∧ exec .pha s = .next { after 1 s with mem := s.mem.write (stackCell s.sp) s.a, sp := s.sp - 1#8 }) ∧
    (encode .pla = [0x68] ∧ Instr.tim .pla = (4, false) ∧ exec .pla s = .next { after 1 s with sp := s.sp + 1#8, a := pulled, fN := (pulled).getLsbD 7, fZ := pulled == 0#8 }) ∧
    (encode .php = [0x08] ∧ Instr.tim .php = (3, false) ∧ exec .php s = .next { after 1 s with mem := s.mem.write (stackCell s.sp) status, sp := s.sp - 1#8 }) ∧
    (encode .plp = [0x28] ∧ Instr.tim .plp = (4, false) ∧ exec .plp s = .next (withStatus pulled { after 1 s with sp := s.sp + 1#8 })) ∧
    (∀ (a : Word) (v : Byte), a ≠ stackCell s.sp → (s.mem.write (stackCell s.sp) v).read a = s.mem.read a)

/-- BRK, whatever I is, pushes a + 2 (high, low) and the status byte with bits 5 and 4 set, S falls by 3, I (and
I_before) become 1 and PC is the word at VEC_IRQ (a parameter, $FFFE by default); D, N, V, Z, C, A, X, Y are
unchanged. RTI pulls the six flags and then PC, nothing added, S rises by 3. NOP moves PC past itself and
changes nothing else. (R210, R211, R212.) -/
def Obligations.BreakAndReturnResults : Prop :=
  ∀ s : State,
    (encode .brk = [0x00] ∧ Instr.tim .brk = (7, false) ∧
      exec .brk s = .next (entered s (s.pc + 2#16) s.vecIrq true)) ∧
    (encode .rti = [0x40] ∧ Instr.tim .rti = (6, false) ∧
      (let p := s.mem.read (stackCell (s.sp + 1#8))
       exec .rti s = .next (withStatus p { s with
        pc := join (s.mem.read (stackCell (s.sp + 3#8))) (s.mem.read (stackCell (s.sp + 2#8)))
        sp := s.sp + 3#8, iBefore := p.getLsbD 2 }))) ∧
    (encode .nop = [0xEA] ∧ Instr.tim .nop = (2, false) ∧ exec .nop s = .next (after 1 s))

/-- With D = 0, for every form of ADC and SBC and its operand byte m: after ADC, V is bit 7 of (A XOR r) AND (m
XOR r); after SBC, V is bit 7 of (A XOR m) AND (A XOR r); A the old value, r the result. V is defined by the
exact signed result, so this is a fact about it. (R130, R131.) -/
def Obligations.OverflowByBits : Prop :=
  ∀ (s t : State) (i : Instr) (m : Byte), s.fD = false → operandOf i s = some m → exec i s = .next t →
    (i.mnemonic = .adc → t.fV = ((s.a ^^^ t.a) &&& (m ^^^ t.a)).getLsbD 7) ∧
    (i.mnemonic = .sbc → t.fV = ((s.a ^^^ m) &&& (s.a ^^^ t.a)).getLsbD 7)

/-- With D = 0: SBC Immediate of a byte and ADC Immediate of its complement lead to the same state; and for
every form of SBC, whose operand byte is m, ADC Immediate of m XOR $FF gives the same A, C, V, N and Z. (R131.)
-/
def Obligations.SubtractIsAddOfComplement : Prop :=
  ∀ s : State, s.fD = false →
    (∀ v : Byte, exec (.sbcImm v) s = exec (.adcImm (v ^^^ 0xFF#8)) s) ∧
    ∀ (i : Instr) (m : Byte) (t : State), i.mnemonic = .sbc → operandOf i s = some m → exec i s = .next t →
      ∃ u : State, exec (.adcImm (m ^^^ 0xFF#8)) s = .next u ∧
        t.a = u.a ∧ t.fC = u.fC ∧ t.fV = u.fV ∧ t.fN = u.fN ∧ t.fZ = u.fZ

/-- With D = 1 and valid packed BCD in A and the operand byte, for every form of ADC and SBC: the result is
valid packed BCD; for ADC its value plus 100 times C is the exact sum with the carry in; for SBC its value minus
100 times the borrow is the exact difference with the borrow in. The exactness rests on the spec's own reading
of its source (R132) and log entry 27. (R132, R133.) -/
def Obligations.DecimalArithmeticIsExact : Prop :=
  ∀ (s t : State) (i : Instr) (m : Byte), s.fD = true → operandOf i s = some m → exec i s = .next t →
    bcdValid s.a = true → bcdValid m = true →
    (i.mnemonic = .adc → bcdValid t.a = true ∧
      bcdValue t.a + 100 * t.fC.toNat = bcdValue s.a + bcdValue m + s.fC.toNat) ∧
    (i.mnemonic = .sbc → bcdValid t.a = true ∧
      (bcdValue t.a : Int) - 100 * (1 - t.fC.toNat) = bcdValue s.a - bcdValue m - (1 - s.fC.toNat))

/-- ROL is a nine-bit rotation through C: nine executions of ROL A bring A and C back; ROR A after ROL A brings
A and C back. (R152, R153.) -/
def Obligations.NineRotationsRestore : Prop :=
  ∀ s : State,
    (∃ t : State, execRepeated 9 .rolAcc s = .next t ∧ t.a = s.a ∧ t.fC = s.fC) ∧
    (∃ t u : State, exec .rolAcc s = .next t ∧ exec .rorAcc t = .next u ∧ u.a = s.a ∧ u.fC = s.fC)

/-- On valid packed BCD operands the optional algorithm of U6 gives, for ADC and for SBC, the same byte and the
same carry as the rules that the machine follows. (93_implementation_defined.md U6, R132, R133.) -/
def Obligations.NmosDecimalRefines : Prop :=
  ∀ (a m : Byte) (c : Bool), bcdValid a = true → bcdValid m = true →
    ((nmosAddDecimal a m c).result, (nmosAddDecimal a m c).carry) = addDecimal a m c ∧
    ((nmosSubDecimal a m c).result, (nmosSubDecimal a m c).carry) = subDecimal a m c

/-- For every state and target, JSR and then RTS lead to a + 3, S, all flags and registers as before; memory is
what JSR left. (R182, R183, R184.) -/
def Obligations.SubroutineReturns : Prop :=
  ∀ (s : State) (w : Word), ∃ t : State, exec (.jsr w) s = .next t ∧
    exec .rts t = .next { s with pc := s.pc + 3#16, iBefore := s.fI, mem := t.mem }

/-- For every state, BRK and then RTI lead to a + 2 with S, N, V, D, I, Z, C and all registers as before the
BRK. (R210, R211, R231.) -/
def Obligations.BreakReturns : Prop :=
  ∀ s : State, ∃ t : State, exec .brk s = .next t ∧
    exec .rti t = .next { s with
      pc := s.pc + 2#16, iBefore := s.fI, mem := t.mem, draws := t.draws, devLog := t.devLog }

/-- For every state, after an IRQ or NMI entry RTI leads back to the interrupted PC with S, N, V, D, I, Z, C and
all registers as before the entry. (R211, R226, R227, R231.) -/
def Obligations.InterruptReturns : Prop :=
  ∀ s : State,
    exec .rti s.irqEntry = .next { s with
      iBefore := s.fI, mem := s.irqEntry.mem, draws := s.irqEntry.draws, devLog := s.irqEntry.devLog } ∧
    exec .rti s.nmiEntry = .next { s with
      iBefore := s.fI, mem := s.nmiEntry.mem, draws := s.nmiEntry.draws, devLog := s.nmiEntry.devLog
      nmiPending := false }

/-- After PHP, whatever the flags are changed to, PLP restores N, V, D, I, Z and C to what they were at the PHP,
with S restored. (R34, R35, R204, R205.) -/
def Obligations.StatusSurvivesTheStack : Prop :=
  ∀ (s t : State) (n v d i z c : Bool), exec .php s = .next t →
    ∃ u : State, exec .plp { t with fN := n, fV := v, fD := d, fI := i, fZ := z, fC := c } = .next u ∧
      u.fN = s.fN ∧ u.fV = s.fV ∧ u.fD = s.fD ∧ u.fI = s.fI ∧ u.fZ = s.fZ ∧ u.fC = s.fC ∧ u.sp = s.sp

/-- After the inputs are sampled: a reset request is served first; else a pending NMI; else an IRQ whose line is
1 with I and I_before both 0 must be taken, with both 1 must not be; where they differ the step is one of the
two; with no request the instruction runs. How one outcome is picked where I and I_before differ is a free bit
(log entry 10). (R224, R230.) -/
def Obligations.BoundaryOrder : Prop :=
  ∀ s : State, let u := s.sample
    (u.resetReq = true → step s = .next u.resetEntry) ∧
    (u.resetReq = false → u.nmiPending = true → step s = .next u.nmiEntry) ∧
    (u.resetReq = false → u.nmiPending = false →
      (u.irqLine = true → u.fI = false → u.iBefore = false → step s = .next u.irqEntry) ∧
      (u.irqLine = true → u.fI = true → u.iBefore = true → step s = runInstruction u) ∧
      (u.irqLine = true → u.fI ≠ u.iBefore → ∃ d : Nat,
        step s = .next ({ u with draws := d } : State).irqEntry ∨ step s = runInstruction { u with draws := d }) ∧
      (u.irqLine = false → step s = runInstruction u))

/-- An empty script changes nothing. Otherwise the entry sets the two levels, an NMI edge is latched on top of a
pending one, the entry is consumed, and nothing else changes. (R39, R221, R222.) -/
def Obligations.SampledInputs : Prop :=
  ∀ (s : State) (p : Inputs) (rest : List Inputs),
    (s.inputs = [] → s.sample = s) ∧
    (s.inputs = p :: rest → s.sample = { s with
      irqLine := p.irqLine, resetReq := p.resetReq, inputs := rest
      nmiPending := s.nmiPending || p.nmiEdge })

/-- Entry pushes PC high, PC low and the status byte (bit 5 set, bit 4 clear, flags as they are) on the stack in
page 1, sets I and I_before, and loads PC from the vector (VEC_IRQ for IRQ, VEC_NMI for NMI, whose pending bit
is cleared; parameters held in the state); A, X, Y, N, V, D, Z, C, the IRQ line and all other memory are
unchanged. (R225, R226, R227.) -/
def Obligations.InterruptEntry : Prop :=
  ∀ s : State,
    s.irqEntry = entered s s.pc s.vecIrq false ∧
    s.nmiEntry = entered { s with nmiPending := false } s.pc s.vecNmi false ∧
    ∀ (vec : Word) (brk : Bool) (a : Word),
      a ≠ stackCell s.sp → a ≠ stackCell (s.sp - 1#8) → a ≠ stackCell (s.sp - 2#8) →
        (entered s s.pc vec brk).mem.read a = s.mem.read a

/-- A reset step sets I and I_before to 1, clears nmi_pending, loads PC from VEC_RESET (a parameter), gives A,
X, Y, S, N, V, Z, C, D some values and changes nothing else but what the read of the vector tells a device:
nothing is pushed or written. (R250.) -/
def Obligations.ResetStep : Prop :=
  ∀ s : State, ∃ (a x y sp : Byte) (n v z c d : Bool) (k : Nat),
    let r := ({ s with fI := true, iBefore := true, nmiPending := false } : State).readWord s.vecReset
    s.resetEntry = { s with
      a := a, x := x, y := y, sp := sp, fN := n, fV := v, fZ := z, fC := c, fD := d
      fI := true, iBefore := true, nmiPending := false, pc := r.1, devLog := r.2.devLog, draws := k }

/-- After reset I is 1, I_before is 1, nmi_pending is 0 and PC is the word at VEC_RESET. The three vectors are
at their defaults $FFFA, $FFFC and $FFFE (PRESUMED by the spec, log entry 11). That the word at $FFFC is $0000
rests on log entry 2 and is not part of the statement. (R5, R40, R250.) -/
def Obligations.ResetValues : Prop :=
  State.reset.fI = true ∧ State.reset.iBefore = true ∧ State.reset.nmiPending = false ∧
    State.reset.vecNmi = 0xFFFA#16 ∧ State.reset.vecReset = 0xFFFC#16 ∧ State.reset.vecIrq = 0xFFFE#16 ∧
    State.reset.pc =
      join (State.reset.mem.read (State.reset.vecReset + 1#16)) (State.reset.mem.read State.reset.vecReset)

/-- The register write matrix over all instructions: a register not listed for an instruction is left unchanged
by it, S moves by exactly the listed amount, PC advances by the length unless the instruction is listed as
setting it, and a byte of memory changes only at the effective address of a storing or read-modify-write form or
at the stack bytes of PHA, PHP, JSR and BRK. IRQ and NMI entry write S, PC and three stack bytes, and reset
writes no byte of memory. (R41.) -/
def Obligations.RegisterWriteMatrix : Prop :=
  ∀ (i : Instr) (s t : State), (exec i s = .next t →
    (t.a ≠ s.a → i.mnemonic ∈ [.lda, .pla, .txa, .tya, .adc, .sbc, .and, .eor, .ora] ∨
      (i.mnemonic ∈ [.asl, .lsr, .rol, .ror] ∧ i.mode = .acc)) ∧
    (t.x ≠ s.x → i.mnemonic ∈ [.ldx, .tax, .tsx, .inx, .dex]) ∧
    (t.y ≠ s.y → i.mnemonic ∈ [.ldy, .tay, .iny, .dey]) ∧
    (i.mnemonic ≠ .txs → t.sp = s.sp + BitVec.ofInt 8 (stackMove i.mnemonic)) ∧
    (t.pc ≠ s.pc + BitVec.ofNat 16 i.length → i.mnemonic ∈
      [.bpl, .bmi, .bvc, .bvs, .bcc, .bcs, .bne, .beq, .jmp, .jsr, .rts, .rti, .brk]) ∧
    (∀ a : Word, t.mem.read a ≠ s.mem.read a →
      (i.mnemonic ∈ [.sta, .stx, .sty, .asl, .lsr, .rol, .ror, .inc, .dec] ∧
        ∃ f : MemForm, Instr.memForm i = some f ∧ a = f.ea s) ∨
      (i.mnemonic ∈ [.pha, .php, .jsr, .brk] ∧ a = stackCell s.sp) ∨
      (i.mnemonic ∈ [.jsr, .brk] ∧ a = stackCell (s.sp - 1#8)) ∨
      (i.mnemonic = .brk ∧ a = stackCell (s.sp - 2#8)))) ∧
    (∀ e ∈ [s.irqEntry, s.nmiEntry], e.a = s.a ∧ e.x = s.x ∧ e.y = s.y ∧ e.sp = s.sp - 3#8 ∧
      ∀ a : Word, e.mem.read a ≠ s.mem.read a → a ∈ [stackCell s.sp, stackCell (s.sp - 1#8), stackCell (s.sp - 2#8)]) ∧
    s.resetEntry.mem = s.mem

/-- The flag write matrix over all instructions: a flag not listed for an instruction is left unchanged by it.
Interrupt entry changes I alone, to 1; reset sets I. (R42.) -/
def Obligations.FlagWriteMatrix : Prop :=
  ∀ (i : Instr) (s t : State), (exec i s = .next t →
    (t.fN ≠ s.fN ∨ t.fZ ≠ s.fZ → i.mnemonic ∈
      [.adc, .sbc, .and, .eor, .ora, .asl, .lsr, .rol, .ror, .bit, .cmp, .cpx, .cpy, .dec, .inc, .lda, .ldx, .ldy,
       .tax, .txa, .dex, .inx, .tay, .tya, .dey, .iny, .tsx, .pla, .plp, .rti]) ∧
    (t.fV ≠ s.fV → i.mnemonic ∈ [.adc, .sbc, .bit, .clv, .plp, .rti]) ∧
    (t.fD ≠ s.fD → i.mnemonic ∈ [.cld, .sed, .plp, .rti]) ∧
    (t.fI ≠ s.fI → i.mnemonic ∈ [.brk, .cli, .sei, .plp, .rti]) ∧
    (t.fC ≠ s.fC → i.mnemonic ∈
      [.adc, .sbc, .asl, .lsr, .rol, .ror, .cmp, .cpx, .cpy, .clc, .sec, .plp, .rti])) ∧
    (∀ e ∈ [s.irqEntry, s.nmiEntry], e.fI = true ∧ e.fN = s.fN ∧ e.fV = s.fV ∧ e.fD = s.fD ∧ e.fZ = s.fZ ∧
      e.fC = s.fC) ∧
    s.resetEntry.fI = true

/-- After every instruction I_before is the I the instruction started with, except after RTI and BRK, where it
is the new I; so it equals I except right after a CLI, SEI or PLP that changed I. After an interrupt entry and
after reset it is the new I. (R39, R224.) -/
def Obligations.MaskingLag : Prop :=
  ∀ (i : Instr) (s t : State),
    (exec i s = .next t →
      (i.mnemonic ∉ [.rti, .brk] → t.iBefore = s.fI) ∧
      (i.mnemonic ∉ [.cli, .sei, .plp] → t.iBefore = t.fI)) ∧
    s.irqEntry.iBefore = s.irqEntry.fI ∧ s.nmiEntry.iBefore = s.nmiEntry.fI ∧ s.resetEntry.iBefore = s.resetEntry.fI

/-- There is one mode and no instruction is privileged: every instruction of the table, executed in any state
whose map has no I/O region with side effects, answers a next state, and in every state none of them faults.
(R220, R232.) -/
def Obligations.EveryInstructionCompletes : Prop :=
  ∀ (i : Instr) (s : State),
    (NoDevices s → ∃ t : State, exec i s = .next t) ∧ ∀ f : Fault, exec i s ≠ .fault f

/-- The exact condition is the model's own deduction, log entry 7 (option (b) of R69): a form with a memory
operand is refused exactly when its effective address or un-carried address lies in an I/O region with side
effects and it is not a plain read or write in Zero Page or Absolute mode; JMP Indirect exactly when a byte of
its vector does; a branch exactly when it is taken to another page and the target's address with the un-carried
high byte does; nothing else is ever refused, and devices declared harmless refuse nothing. (R69.) -/
def Obligations.RefusedExactlyOnDevices : Prop :=
  ∀ (i : Instr) (s : State),
    (∃ r : Refusal, exec i s = .refused r) ↔
      (∃ f : MemForm, Instr.memForm i = some f ∧
        (s.kindOf (f.ea s) = .io ∨ s.kindOf (join (hi (f.base s)) (lo (f.ea s))) = .io) ∧
        (i.mode ∉ [.zp, .abs] ∨ i.mnemonic ∈ [.asl, .lsr, .rol, .ror, .inc, .dec])) ∨
      (∃ w : Word, i = .jmpInd w ∧ (s.kindOf w = .io ∨
        s.kindOf (BitVec.ofNat 16 (w.toNat / 256 * 256 + (w.toNat + 1) % 256)) = .io)) ∨
      (∃ d : Byte, (i, true) ∈ branches d s ∧
        crossesToDevice s (BitVec.ofInt 16 ((s.pc.toNat : Int) + 2 + d.toInt)))

/-- It compares two runs with equal counts of draws, so that both read the same free bytes from devices and
unmapped addresses: it rests on log entry 3 (DESIGN CHOICE, unsafe for comparing two runs). Any other
instruction, executed in two states that differ only in D, has the same outcome but for D, and it leaves D alone
or writes it with a value that does not depend on it. (R102, R196.) -/
def Obligations.DecimalFlagReadByAddAndSubtractOnly : Prop :=
  ∀ (i : Instr) (s : State) (d : Bool), i.mnemonic ∉ [.adc, .sbc, .php, .brk] →
    sameButD (exec i s) (exec i { s with fD := d }) ∧
      ∀ t u : State, exec i s = .next t → exec i { s with fD := d } = .next u →
        (t.fD = s.fD ∧ u.fD = d) ∨ t.fD = u.fD

/-- On every map with no I/O region with side effects, in every state, a step answers a next state whose map
again has none, or the fault illegalOpcode with a byte that is one of the 105 undefined op codes; it never
refuses. That the map stays is log entry 4. (R99, R220.) -/
def Obligations.StepStopsOnlyOnUndefinedOpcodes : Prop :=
  ∀ s : State, NoDevices s →
    (∃ t : State, step s = .next t ∧ NoDevices t) ∨
    ∃ (opc : Byte) (a : Word), step s = .fault (.illegalOpcode opc a) ∧ opc.toNat ∈ undefinedOpcodes

/-- For every state whose memory is in canonical form (addresses rising below 65536, no cell that holds what an
unlisted address reads as), a step that answers a next state leaves it so. (R38, R50, R57.) -/
def Obligations.StepKeepsMemoryCanonical : Prop :=
  ∀ s t : State, MemoryCanonical s → step s = .next t → MemoryCanonical t

/-- The state after reset satisfies the memory invariant (what its bytes read as rests on log entry 2). (R38,
R40.) -/
def Obligations.ResetMemoryCanonical : Prop :=
  MemoryCanonical State.reset

/-- What it says is the model's own: a map that never changes (log entry 4), ROM that ignores writes (entry 5),
the log of device accesses (entry 6), the count of draws (entry 3), the input script (entry 8) and vector
addresses that no step moves (entry 11). Every step leaves the memory map and the vector addresses as they are,
leaves every byte that is not RAM as it is, only adds to the log of device accesses and to the count of draws,
and consumes at most the first entry of the input script. (20_memory.md section 3.) -/
def Obligations.StepKeepsThePlatform : Prop :=
  ∀ s t : State, step s = .next t →
    t.regions = s.regions ∧ t.vecNmi = s.vecNmi ∧ t.vecReset = s.vecReset ∧ t.vecIrq = s.vecIrq ∧
    (∀ a : Word, s.kindOf a ≠ .ram → t.mem.read a = s.mem.read a) ∧
    (∃ l : List DeviceAccess, t.devLog = l ++ s.devLog) ∧
    s.draws ≤ t.draws ∧ t.inputs = s.inputs.tail

/-- That the map never changes is log entry 4 and that ROM ignores writes is log entry 5, both DESIGN CHOICE and
unsafe (R57 gives the second as the default of an open parameter). From any state, after any number of steps,
every ROM address still is ROM and reads the byte it read at the start. (R57, R251.) -/
def Obligations.RomImageSurvivesEveryRun : Prop :=
  ∀ s t : State, Reaches s t → ∀ a : Word, s.kindOf a = .rom → t.kindOf a = .rom ∧ t.mem.read a = s.mem.read a

/-- For every row with a + in its TIM: the Absolute,X rows take 4 cycles, and 5 exactly when the low address
byte plus X reaches 256; the Absolute,Y rows likewise with Y; the Indirect,Y rows take 5, and 6 exactly when the
pointer's low byte plus Y does. STA in these modes always takes 5, 5 and 6. (R92, R93, R95, R264, R265.) -/
def Obligations.PageCrossingCycles : Prop :=
  ∀ (s : State) (w : Word) (b : Byte),
    (∀ i ∈ ([.oraAbx w, .andAbx w, .eorAbx w, .adcAbx w, .ldyAbx w, .ldaAbx w, .cmpAbx w, .sbcAbx w] : List Instr),
      cycles i s = if 256 ≤ (lo w).toNat + s.x.toNat then 5 else 4) ∧
    (∀ i ∈ ([.oraAby w, .andAby w, .eorAby w, .adcAby w, .ldaAby w, .ldxAby w, .cmpAby w, .sbcAby w] : List Instr),
      cycles i s = if 256 ≤ (lo w).toNat + s.y.toNat then 5 else 4) ∧
    (∀ i ∈ ([.oraIzy b, .andIzy b, .eorIzy b, .adcIzy b, .ldaIzy b, .cmpIzy b, .sbcIzy b] : List Instr),
      cycles i s = if 256 ≤ (s.mem.read (zext16 b)).toNat + s.y.toNat then 6 else 5) ∧
    cycles (.staAbx w) s = 5 ∧ cycles (.staAby w) s = 5 ∧ cycles (.staIzy b) s = 6
end

