-- ==== Sys2Proof/Laws/Words.lean ====
section
/-! SUPPORT. Words and bytes: the halves of a word, extension, and where stack addresses lie. -/

namespace Sys2Proof

@[simp] theorem lo_toNat (w : Word) : (lo w).toNat = w.toNat % 256 := by simp [lo]

@[simp] theorem hi_toNat (w : Word) : (hi w).toNat = w.toNat / 256 := by
  have := w.isLt
  simp [hi]; omega

@[simp] theorem join_toNat (h l : Byte) : (join h l).toNat = h.toNat * 256 + l.toNat := by
  have := h.isLt
  have := l.isLt
  simp [join]; omega

@[simp] theorem join_hi_lo (w : Word) : join (hi w) (lo w) = w := by
  apply BitVec.eq_of_toNat_eq
  simp; omega

@[simp] theorem hi_join (h l : Byte) : hi (join h l) = h := by
  apply BitVec.eq_of_toNat_eq
  have := l.isLt
  simp; omega

@[simp] theorem lo_join (h l : Byte) : lo (join h l) = l := by
  apply BitVec.eq_of_toNat_eq
  have := l.isLt
  simp; omega

namespace Machine

@[simp] theorem zext16_toNat (b : Byte) : (zext16 b).toNat = b.toNat := by
  have := b.isLt
  simp [zext16]; omega

theorem sext16_toInt (b : Byte) : (sext16 b).toInt = b.toInt := by
  have h1 := BitVec.le_toInt b
  have h2 := BitVec.toInt_lt (x := b)
  simp only [sext16, BitVec.toInt_ofInt]
  rw [Int.bmod_eq_of_le] <;> omega

/-- The stack lies in page 1 whatever S is (R61). -/
@[simp] theorem stackAddr_toNat (p : Byte) : (stackAddr p).toNat = 256 + p.toNat := by
  have := p.isLt
  simp [stackAddr, BitVec.toNat_add]; omega

theorem stackAddr_inj {p q : Byte} : stackAddr p = stackAddr q ↔ p = q := by
  constructor
  · intro h
    have := congrArg BitVec.toNat h
    simp at this
    exact BitVec.eq_of_toNat_eq (by omega)
  · rintro rfl; rfl

end Machine

end Sys2Proof
end

