-- ==== Sys2Proof/Laws/Memory.lean ====
section
/-! SUPPORT. The laws of memory: a read after a write gives the byte written, a write leaves every other
address alone, every operation keeps the canonical form, and equal contents are equal data. -/

namespace Sys2Proof.Machine

theorem Memory.lookup_erase (m : Memory) (k j : Nat) :
    (Memory.erase m k).lookup j = if j = k then none else m.lookup j := by
  induction m with
  | nil => simp [Memory.erase]
  | cons c m ih =>
    obtain ⟨k', b'⟩ := c
    simp only [Memory.erase, List.filter_cons] at *
    by_cases h : k' = k
    · subst h
      simp only [bne_self_eq_false, Bool.false_eq_true, if_false, ih]
      split
      · rfl
      · rename_i hj
        simp [List.lookup_cons, beq_false_of_ne hj]
    · simp only [bne_iff_ne, ne_eq, h, not_false_eq_true, if_true, List.lookup_cons, ih]
      by_cases hj : j = k'
      · subst hj; simp [h]
      · simp [beq_false_of_ne hj]

theorem Memory.lookup_insert (m : Memory) (k j : Nat) (b : Byte) (hk : m.lookup k = none) :
    (Memory.insert m k b).lookup j = if j = k then some b else m.lookup j := by
  induction m with
  | nil =>
    by_cases h : j = k
    · subst h; simp [Memory.insert]
    · simp [Memory.insert, List.lookup_cons, beq_false_of_ne h, h]
  | cons c m ih =>
    obtain ⟨k', b'⟩ := c
    have hne : k ≠ k' := by
      rintro rfl
      simp at hk
    have hk' : m.lookup k = none := by simpa [List.lookup_cons, beq_false_of_ne hne] using hk
    simp only [Memory.insert]
    split
    · by_cases h : j = k
      · subst h; simp
      · simp [List.lookup_cons, beq_false_of_ne h, h]
    · simp only [List.lookup_cons, ih hk']
      by_cases h : j = k'
      · subst h; simp [hne.symm]
      · simp [beq_false_of_ne h]

/-- What a write makes each address hold, in any memory. -/
theorem Memory.read_write (m : Memory) (a a' : Word) (b : Byte) :
    (m.write a b).read a' = if a' = a then b else m.read a' := by
  have key : a'.toNat = a.toNat ↔ a' = a := ⟨fun h => BitVec.eq_of_toNat_eq h, fun h => by rw [h]⟩
  simp only [Memory.write, Memory.read, Memory.writeAt]
  split
  · rename_i hb
    rw [Memory.lookup_erase]
    by_cases h : a' = a
    · simp [h, hb]
    · simp [h, key]
  · rw [Memory.lookup_insert _ _ _ _ (by simp [Memory.lookup_erase]), Memory.lookup_erase]
    by_cases h : a' = a
    · simp [h]
    · simp [h, key]

/-- A read after a write to the same address gives the byte written. -/
@[simp] theorem Memory.read_write_same (m : Memory) (a : Word) (b : Byte) : (m.write a b).read a = b := by
  simp [Memory.read_write]

/-- A write leaves every other address alone. -/
theorem Memory.read_write_of_ne (m : Memory) {a a' : Word} (b : Byte) (h : a' ≠ a) :
    (m.write a b).read a' = m.read a' := by simp [Memory.read_write, h]

theorem Memory.wfFrom_mono {m : Memory} {j k : Nat} (hjk : j ≤ k) (h : Memory.wfFrom k m = true) :
    Memory.wfFrom j m = true := by
  cases m with
  | nil => rfl
  | cons c m =>
    simp only [Memory.wfFrom, Bool.and_eq_true, decide_eq_true_eq] at *
    exact ⟨⟨⟨by omega, h.1.1.2⟩, h.1.2⟩, h.2⟩

theorem Memory.wfFrom_erase {m : Memory} {j : Nat} (k : Nat) (h : Memory.wfFrom j m = true) :
    Memory.wfFrom j (Memory.erase m k) = true := by
  induction m generalizing j with
  | nil => rfl
  | cons c m ih =>
    simp only [Memory.wfFrom, Bool.and_eq_true, decide_eq_true_eq] at h
    simp only [Memory.erase, List.filter_cons] at *
    split
    · simp only [Memory.wfFrom, Bool.and_eq_true, decide_eq_true_eq]
      exact ⟨h.1, ih h.2⟩
    · exact Memory.wfFrom_mono (by omega) (ih h.2)

theorem Memory.wfFrom_insert {m : Memory} {j k : Nat} {b : Byte} (hk : k < 65536) (hjk : j ≤ k)
    (hb : b ≠ Memory.unlisted) (hm : m.lookup k = none) (h : Memory.wfFrom j m = true) :
    Memory.wfFrom j (Memory.insert m k b) = true := by
  induction m generalizing j with
  | nil => simp [Memory.insert, Memory.wfFrom, hk, hjk, hb]
  | cons c m ih =>
    obtain ⟨k', b'⟩ := c
    have hne : k ≠ k' := by
      rintro rfl
      simp at hm
    have hm' : m.lookup k = none := by simpa [List.lookup_cons, beq_false_of_ne hne] using hm
    simp only [Memory.wfFrom, Bool.and_eq_true, decide_eq_true_eq] at h
    simp only [Memory.insert]
    split
    · rename_i hlt
      have hlt : k < k' := hlt
      simp only [Memory.wfFrom, Bool.and_eq_true, decide_eq_true_eq, bne_iff_ne]
      exact ⟨⟨⟨hjk, hk⟩, hb⟩, ⟨⟨by omega, h.1.1.2⟩, by simpa using h.1.2⟩, h.2⟩
    · rename_i hlt
      have hlt : ¬ k < k' := hlt
      simp only [Memory.wfFrom, Bool.and_eq_true, decide_eq_true_eq]
      exact ⟨h.1, ih (by omega) hm' h.2⟩

/-- A write keeps the canonical form. -/
theorem Memory.wf_write {m : Memory} (a : Word) (b : Byte) (h : m.wf = true) : (m.write a b).wf = true := by
  simp only [Memory.wf, Memory.write, Memory.writeAt] at *
  split
  · exact Memory.wfFrom_erase _ h
  · rename_i hb
    exact Memory.wfFrom_insert a.isLt (by omega) hb (by simp [Memory.lookup_erase]) (Memory.wfFrom_erase _ h)

theorem Memory.lookup_of_wfFrom {m : Memory} {j k : Nat} (h : Memory.wfFrom j m = true) (hk : k < j) :
    m.lookup k = none := by
  induction m generalizing j with
  | nil => rfl
  | cons c m ih =>
    obtain ⟨k', b'⟩ := c
    simp only [Memory.wfFrom, Bool.and_eq_true, decide_eq_true_eq] at h
    simp only [List.lookup_cons, beq_false_of_ne (show k ≠ k' by omega)]
    exact ih h.2 (by omega)

/-- Memories in canonical form that read the same everywhere are the same data. -/
theorem Memory.ext_of_wf {m m' : Memory} (h : m.wf = true) (h' : m'.wf = true)
    (heq : ∀ a : Word, m.read a = m'.read a) : m = m' := by
  have key : ∀ (m m' : Memory) (j : Nat), Memory.wfFrom j m = true → Memory.wfFrom j m' = true →
      (∀ k, j ≤ k → k < 65536 → (m.lookup k).getD Memory.unlisted = (m'.lookup k).getD Memory.unlisted) →
      m = m' := by
    intro m
    induction m with
    | nil =>
      intro m' j _ h' heq
      cases m' with
      | nil => rfl
      | cons c m' =>
        obtain ⟨k, b⟩ := c
        simp only [Memory.wfFrom, Bool.and_eq_true, decide_eq_true_eq, bne_iff_ne] at h'
        have := heq k h'.1.1.1 h'.1.1.2
        simp at this
        exact absurd this.symm h'.1.2
    | cons c m ih =>
      obtain ⟨k, b⟩ := c
      intro m' j h h' heq
      simp only [Memory.wfFrom, Bool.and_eq_true, decide_eq_true_eq, bne_iff_ne] at h
      cases m' with
      | nil =>
        have := heq k h.1.1.1 h.1.1.2
        simp at this
        exact absurd this h.1.2
      | cons c' m' =>
        obtain ⟨k', b'⟩ := c'
        simp only [Memory.wfFrom, Bool.and_eq_true, decide_eq_true_eq, bne_iff_ne] at h'
        have hkk : k = k' := by
          rcases Nat.lt_trichotomy k k' with hlt | heq' | hgt
          · have := heq k h.1.1.1 h.1.1.2
            rw [List.lookup_cons, List.lookup_cons] at this
            simp only [beq_self_eq_true, beq_false_of_ne (show k ≠ k' by omega),
              Memory.lookup_of_wfFrom h'.2 (show k < k' + 1 by omega)] at this
            exact absurd this h.1.2
          · exact heq'
          · have := heq k' h'.1.1.1 h'.1.1.2
            rw [List.lookup_cons, List.lookup_cons] at this
            simp only [beq_self_eq_true, beq_false_of_ne (show k' ≠ k by omega),
              Memory.lookup_of_wfFrom h.2 (show k' < k + 1 by omega)] at this
            exact absurd this.symm h'.1.2
        subst hkk
        have hb : b = b' := by
          have := heq k h.1.1.1 h.1.1.2
          simpa using this
        subst hb
        have := ih m' (k + 1) h.2 h'.2 (by
          intro i hi hi'
          have := heq i (by omega) hi'
          simpa [List.lookup_cons, beq_false_of_ne (show i ≠ k by omega)] using this)
        rw [this]
  refine key m m' 0 h h' ?_
  intro k _ hk
  have := heq (BitVec.ofNat 16 k)
  have hm : k % 65536 = k := Nat.mod_eq_of_lt hk
  simpa [Memory.read, hm] using this

end Sys2Proof.Machine
end

