-- ==== Sys2Proof/Laws/State.lean ====
section
/-! SUPPORT. One lemma per field per update of the state: what each named operation leaves of a field. Below
them, the state after reset. -/

namespace Sys2Proof.Machine

/-! `State.advance` -/
@[simp] theorem State.advance_a (s : State) (n : Nat) : (s.advance n).a = s.a := rfl
@[simp] theorem State.advance_x (s : State) (n : Nat) : (s.advance n).x = s.x := rfl
@[simp] theorem State.advance_y (s : State) (n : Nat) : (s.advance n).y = s.y := rfl
@[simp] theorem State.advance_sp (s : State) (n : Nat) : (s.advance n).sp = s.sp := rfl
@[simp] theorem State.advance_pc (s : State) (n : Nat) : (s.advance n).pc = s.pc + BitVec.ofNat 16 n := rfl
@[simp] theorem State.advance_fN (s : State) (n : Nat) : (s.advance n).fN = s.fN := rfl
@[simp] theorem State.advance_fV (s : State) (n : Nat) : (s.advance n).fV = s.fV := rfl
@[simp] theorem State.advance_fD (s : State) (n : Nat) : (s.advance n).fD = s.fD := rfl
@[simp] theorem State.advance_fI (s : State) (n : Nat) : (s.advance n).fI = s.fI := rfl
@[simp] theorem State.advance_fZ (s : State) (n : Nat) : (s.advance n).fZ = s.fZ := rfl
@[simp] theorem State.advance_fC (s : State) (n : Nat) : (s.advance n).fC = s.fC := rfl
@[simp] theorem State.advance_iBefore (s : State) (n : Nat) : (s.advance n).iBefore = s.fI := rfl
@[simp] theorem State.advance_nmiPending (s : State) (n : Nat) : (s.advance n).nmiPending = s.nmiPending := rfl
@[simp] theorem State.advance_irqLine (s : State) (n : Nat) : (s.advance n).irqLine = s.irqLine := rfl
@[simp] theorem State.advance_resetReq (s : State) (n : Nat) : (s.advance n).resetReq = s.resetReq := rfl
@[simp] theorem State.advance_inputs (s : State) (n : Nat) : (s.advance n).inputs = s.inputs := rfl
@[simp] theorem State.advance_mem (s : State) (n : Nat) : (s.advance n).mem = s.mem := rfl
@[simp] theorem State.advance_regions (s : State) (n : Nat) : (s.advance n).regions = s.regions := rfl
@[simp] theorem State.advance_vecNmi (s : State) (n : Nat) : (s.advance n).vecNmi = s.vecNmi := rfl
@[simp] theorem State.advance_vecReset (s : State) (n : Nat) : (s.advance n).vecReset = s.vecReset := rfl
@[simp] theorem State.advance_vecIrq (s : State) (n : Nat) : (s.advance n).vecIrq = s.vecIrq := rfl
@[simp] theorem State.advance_devLog (s : State) (n : Nat) : (s.advance n).devLog = s.devLog := rfl
@[simp] theorem State.advance_draws (s : State) (n : Nat) : (s.advance n).draws = s.draws := rfl

/-! `State.jump` -/
@[simp] theorem State.jump_a (s : State) (w : Word) : (s.jump w).a = s.a := rfl
@[simp] theorem State.jump_x (s : State) (w : Word) : (s.jump w).x = s.x := rfl
@[simp] theorem State.jump_y (s : State) (w : Word) : (s.jump w).y = s.y := rfl
@[simp] theorem State.jump_sp (s : State) (w : Word) : (s.jump w).sp = s.sp := rfl
@[simp] theorem State.jump_pc (s : State) (w : Word) : (s.jump w).pc = w := rfl
@[simp] theorem State.jump_fN (s : State) (w : Word) : (s.jump w).fN = s.fN := rfl
@[simp] theorem State.jump_fV (s : State) (w : Word) : (s.jump w).fV = s.fV := rfl
@[simp] theorem State.jump_fD (s : State) (w : Word) : (s.jump w).fD = s.fD := rfl
@[simp] theorem State.jump_fI (s : State) (w : Word) : (s.jump w).fI = s.fI := rfl
@[simp] theorem State.jump_fZ (s : State) (w : Word) : (s.jump w).fZ = s.fZ := rfl
@[simp] theorem State.jump_fC (s : State) (w : Word) : (s.jump w).fC = s.fC := rfl
@[simp] theorem State.jump_iBefore (s : State) (w : Word) : (s.jump w).iBefore = s.iBefore := rfl
@[simp] theorem State.jump_nmiPending (s : State) (w : Word) : (s.jump w).nmiPending = s.nmiPending := rfl
@[simp] theorem State.jump_irqLine (s : State) (w : Word) : (s.jump w).irqLine = s.irqLine := rfl
@[simp] theorem State.jump_resetReq (s : State) (w : Word) : (s.jump w).resetReq = s.resetReq := rfl
@[simp] theorem State.jump_inputs (s : State) (w : Word) : (s.jump w).inputs = s.inputs := rfl
@[simp] theorem State.jump_mem (s : State) (w : Word) : (s.jump w).mem = s.mem := rfl
@[simp] theorem State.jump_regions (s : State) (w : Word) : (s.jump w).regions = s.regions := rfl
@[simp] theorem State.jump_vecNmi (s : State) (w : Word) : (s.jump w).vecNmi = s.vecNmi := rfl
@[simp] theorem State.jump_vecReset (s : State) (w : Word) : (s.jump w).vecReset = s.vecReset := rfl
@[simp] theorem State.jump_vecIrq (s : State) (w : Word) : (s.jump w).vecIrq = s.vecIrq := rfl
@[simp] theorem State.jump_devLog (s : State) (w : Word) : (s.jump w).devLog = s.devLog := rfl
@[simp] theorem State.jump_draws (s : State) (w : Word) : (s.jump w).draws = s.draws := rfl

/-! `State.setNZ` -/
@[simp] theorem State.setNZ_a (s : State) (v : Byte) : (s.setNZ v).a = s.a := rfl
@[simp] theorem State.setNZ_x (s : State) (v : Byte) : (s.setNZ v).x = s.x := rfl
@[simp] theorem State.setNZ_y (s : State) (v : Byte) : (s.setNZ v).y = s.y := rfl
@[simp] theorem State.setNZ_sp (s : State) (v : Byte) : (s.setNZ v).sp = s.sp := rfl
@[simp] theorem State.setNZ_pc (s : State) (v : Byte) : (s.setNZ v).pc = s.pc := rfl
@[simp] theorem State.setNZ_fN (s : State) (v : Byte) : (s.setNZ v).fN = v.getLsbD 7 := rfl
@[simp] theorem State.setNZ_fV (s : State) (v : Byte) : (s.setNZ v).fV = s.fV := rfl
@[simp] theorem State.setNZ_fD (s : State) (v : Byte) : (s.setNZ v).fD = s.fD := rfl
@[simp] theorem State.setNZ_fI (s : State) (v : Byte) : (s.setNZ v).fI = s.fI := rfl
@[simp] theorem State.setNZ_fZ (s : State) (v : Byte) : (s.setNZ v).fZ = (v == 0#8) := rfl
@[simp] theorem State.setNZ_fC (s : State) (v : Byte) : (s.setNZ v).fC = s.fC := rfl
@[simp] theorem State.setNZ_iBefore (s : State) (v : Byte) : (s.setNZ v).iBefore = s.iBefore := rfl
@[simp] theorem State.setNZ_nmiPending (s : State) (v : Byte) : (s.setNZ v).nmiPending = s.nmiPending := rfl
@[simp] theorem State.setNZ_irqLine (s : State) (v : Byte) : (s.setNZ v).irqLine = s.irqLine := rfl
@[simp] theorem State.setNZ_resetReq (s : State) (v : Byte) : (s.setNZ v).resetReq = s.resetReq := rfl
@[simp] theorem State.setNZ_inputs (s : State) (v : Byte) : (s.setNZ v).inputs = s.inputs := rfl
@[simp] theorem State.setNZ_mem (s : State) (v : Byte) : (s.setNZ v).mem = s.mem := rfl
@[simp] theorem State.setNZ_regions (s : State) (v : Byte) : (s.setNZ v).regions = s.regions := rfl
@[simp] theorem State.setNZ_vecNmi (s : State) (v : Byte) : (s.setNZ v).vecNmi = s.vecNmi := rfl
@[simp] theorem State.setNZ_vecReset (s : State) (v : Byte) : (s.setNZ v).vecReset = s.vecReset := rfl
@[simp] theorem State.setNZ_vecIrq (s : State) (v : Byte) : (s.setNZ v).vecIrq = s.vecIrq := rfl
@[simp] theorem State.setNZ_devLog (s : State) (v : Byte) : (s.setNZ v).devLog = s.devLog := rfl
@[simp] theorem State.setNZ_draws (s : State) (v : Byte) : (s.setNZ v).draws = s.draws := rfl

/-! `State.setStatus` -/
@[simp] theorem State.setStatus_a (s : State) (v : Byte) : (s.setStatus v).a = s.a := rfl
@[simp] theorem State.setStatus_x (s : State) (v : Byte) : (s.setStatus v).x = s.x := rfl
@[simp] theorem State.setStatus_y (s : State) (v : Byte) : (s.setStatus v).y = s.y := rfl
@[simp] theorem State.setStatus_sp (s : State) (v : Byte) : (s.setStatus v).sp = s.sp := rfl
@[simp] theorem State.setStatus_pc (s : State) (v : Byte) : (s.setStatus v).pc = s.pc := rfl
@[simp] theorem State.setStatus_fN (s : State) (v : Byte) : (s.setStatus v).fN = v.getLsbD 7 := rfl
@[simp] theorem State.setStatus_fV (s : State) (v : Byte) : (s.setStatus v).fV = v.getLsbD 6 := rfl
@[simp] theorem State.setStatus_fD (s : State) (v : Byte) : (s.setStatus v).fD = v.getLsbD 3 := rfl
@[simp] theorem State.setStatus_fI (s : State) (v : Byte) : (s.setStatus v).fI = v.getLsbD 2 := rfl
@[simp] theorem State.setStatus_fZ (s : State) (v : Byte) : (s.setStatus v).fZ = v.getLsbD 1 := rfl
@[simp] theorem State.setStatus_fC (s : State) (v : Byte) : (s.setStatus v).fC = v.getLsbD 0 := rfl
@[simp] theorem State.setStatus_iBefore (s : State) (v : Byte) : (s.setStatus v).iBefore = s.iBefore := rfl
@[simp] theorem State.setStatus_nmiPending (s : State) (v : Byte) : (s.setStatus v).nmiPending = s.nmiPending :=
  rfl
@[simp] theorem State.setStatus_irqLine (s : State) (v : Byte) : (s.setStatus v).irqLine = s.irqLine := rfl
@[simp] theorem State.setStatus_resetReq (s : State) (v : Byte) : (s.setStatus v).resetReq = s.resetReq := rfl
@[simp] theorem State.setStatus_inputs (s : State) (v : Byte) : (s.setStatus v).inputs = s.inputs := rfl
@[simp] theorem State.setStatus_mem (s : State) (v : Byte) : (s.setStatus v).mem = s.mem := rfl
@[simp] theorem State.setStatus_regions (s : State) (v : Byte) : (s.setStatus v).regions = s.regions := rfl
@[simp] theorem State.setStatus_vecNmi (s : State) (v : Byte) : (s.setStatus v).vecNmi = s.vecNmi := rfl
@[simp] theorem State.setStatus_vecReset (s : State) (v : Byte) : (s.setStatus v).vecReset = s.vecReset := rfl
@[simp] theorem State.setStatus_vecIrq (s : State) (v : Byte) : (s.setStatus v).vecIrq = s.vecIrq := rfl
@[simp] theorem State.setStatus_devLog (s : State) (v : Byte) : (s.setStatus v).devLog = s.devLog := rfl
@[simp] theorem State.setStatus_draws (s : State) (v : Byte) : (s.setStatus v).draws = s.draws := rfl

/-! `State.setAlu` -/
@[simp] theorem State.setAlu_a (s : State) (r : AluOut) : (s.setAlu r).a = r.result := rfl
@[simp] theorem State.setAlu_x (s : State) (r : AluOut) : (s.setAlu r).x = s.x := rfl
@[simp] theorem State.setAlu_y (s : State) (r : AluOut) : (s.setAlu r).y = s.y := rfl
@[simp] theorem State.setAlu_sp (s : State) (r : AluOut) : (s.setAlu r).sp = s.sp := rfl
@[simp] theorem State.setAlu_pc (s : State) (r : AluOut) : (s.setAlu r).pc = s.pc := rfl
@[simp] theorem State.setAlu_fN (s : State) (r : AluOut) : (s.setAlu r).fN = r.result.getLsbD 7 := rfl
@[simp] theorem State.setAlu_fV (s : State) (r : AluOut) : (s.setAlu r).fV = r.overflow := rfl
@[simp] theorem State.setAlu_fD (s : State) (r : AluOut) : (s.setAlu r).fD = s.fD := rfl
@[simp] theorem State.setAlu_fI (s : State) (r : AluOut) : (s.setAlu r).fI = s.fI := rfl
@[simp] theorem State.setAlu_fZ (s : State) (r : AluOut) : (s.setAlu r).fZ = (r.result == 0#8) := rfl
@[simp] theorem State.setAlu_fC (s : State) (r : AluOut) : (s.setAlu r).fC = r.carry := rfl
@[simp] theorem State.setAlu_iBefore (s : State) (r : AluOut) : (s.setAlu r).iBefore = s.iBefore := rfl
@[simp] theorem State.setAlu_nmiPending (s : State) (r : AluOut) : (s.setAlu r).nmiPending = s.nmiPending := rfl
@[simp] theorem State.setAlu_irqLine (s : State) (r : AluOut) : (s.setAlu r).irqLine = s.irqLine := rfl
@[simp] theorem State.setAlu_resetReq (s : State) (r : AluOut) : (s.setAlu r).resetReq = s.resetReq := rfl
@[simp] theorem State.setAlu_inputs (s : State) (r : AluOut) : (s.setAlu r).inputs = s.inputs := rfl
@[simp] theorem State.setAlu_mem (s : State) (r : AluOut) : (s.setAlu r).mem = s.mem := rfl
@[simp] theorem State.setAlu_regions (s : State) (r : AluOut) : (s.setAlu r).regions = s.regions := rfl
@[simp] theorem State.setAlu_vecNmi (s : State) (r : AluOut) : (s.setAlu r).vecNmi = s.vecNmi := rfl
@[simp] theorem State.setAlu_vecReset (s : State) (r : AluOut) : (s.setAlu r).vecReset = s.vecReset := rfl
@[simp] theorem State.setAlu_vecIrq (s : State) (r : AluOut) : (s.setAlu r).vecIrq = s.vecIrq := rfl
@[simp] theorem State.setAlu_devLog (s : State) (r : AluOut) : (s.setAlu r).devLog = s.devLog := rfl
@[simp] theorem State.setAlu_draws (s : State) (r : AluOut) : (s.setAlu r).draws = s.draws := rfl

/-! `State.setShift` -/
@[simp] theorem State.setShift_a (s : State) (r : ShiftOut) : (s.setShift r).a = s.a := rfl
@[simp] theorem State.setShift_x (s : State) (r : ShiftOut) : (s.setShift r).x = s.x := rfl
@[simp] theorem State.setShift_y (s : State) (r : ShiftOut) : (s.setShift r).y = s.y := rfl
@[simp] theorem State.setShift_sp (s : State) (r : ShiftOut) : (s.setShift r).sp = s.sp := rfl
@[simp] theorem State.setShift_pc (s : State) (r : ShiftOut) : (s.setShift r).pc = s.pc := rfl
@[simp] theorem State.setShift_fN (s : State) (r : ShiftOut) : (s.setShift r).fN = r.result.getLsbD 7 := rfl
@[simp] theorem State.setShift_fV (s : State) (r : ShiftOut) : (s.setShift r).fV = s.fV := rfl
@[simp] theorem State.setShift_fD (s : State) (r : ShiftOut) : (s.setShift r).fD = s.fD := rfl
@[simp] theorem State.setShift_fI (s : State) (r : ShiftOut) : (s.setShift r).fI = s.fI := rfl
@[simp] theorem State.setShift_fZ (s : State) (r : ShiftOut) : (s.setShift r).fZ = (r.result == 0#8) := rfl
@[simp] theorem State.setShift_fC (s : State) (r : ShiftOut) : (s.setShift r).fC = r.carry := rfl
@[simp] theorem State.setShift_iBefore (s : State) (r : ShiftOut) : (s.setShift r).iBefore = s.iBefore := rfl
@[simp] theorem State.setShift_nmiPending (s : State) (r : ShiftOut) : (s.setShift r).nmiPending = s.nmiPending :=
  rfl
@[simp] theorem State.setShift_irqLine (s : State) (r : ShiftOut) : (s.setShift r).irqLine = s.irqLine := rfl
@[simp] theorem State.setShift_resetReq (s : State) (r : ShiftOut) : (s.setShift r).resetReq = s.resetReq := rfl
@[simp] theorem State.setShift_inputs (s : State) (r : ShiftOut) : (s.setShift r).inputs = s.inputs := rfl
@[simp] theorem State.setShift_mem (s : State) (r : ShiftOut) : (s.setShift r).mem = s.mem := rfl
@[simp] theorem State.setShift_regions (s : State) (r : ShiftOut) : (s.setShift r).regions = s.regions := rfl
@[simp] theorem State.setShift_vecNmi (s : State) (r : ShiftOut) : (s.setShift r).vecNmi = s.vecNmi := rfl
@[simp] theorem State.setShift_vecReset (s : State) (r : ShiftOut) : (s.setShift r).vecReset = s.vecReset := rfl
@[simp] theorem State.setShift_vecIrq (s : State) (r : ShiftOut) : (s.setShift r).vecIrq = s.vecIrq := rfl
@[simp] theorem State.setShift_devLog (s : State) (r : ShiftOut) : (s.setShift r).devLog = s.devLog := rfl
@[simp] theorem State.setShift_draws (s : State) (r : ShiftOut) : (s.setShift r).draws = s.draws := rfl

/-! `State.drawNVZ` -/
@[simp] theorem State.drawNVZ_a (s : State) : (s.drawNVZ).a = s.a := rfl
@[simp] theorem State.drawNVZ_x (s : State) : (s.drawNVZ).x = s.x := rfl
@[simp] theorem State.drawNVZ_y (s : State) : (s.drawNVZ).y = s.y := rfl
@[simp] theorem State.drawNVZ_sp (s : State) : (s.drawNVZ).sp = s.sp := rfl
@[simp] theorem State.drawNVZ_pc (s : State) : (s.drawNVZ).pc = s.pc := rfl
@[simp] theorem State.drawNVZ_fN (s : State) : (s.drawNVZ).fN = Config.freeBit s.draws := rfl
@[simp] theorem State.drawNVZ_fV (s : State) : (s.drawNVZ).fV = Config.freeBit (s.draws + 1) := rfl
@[simp] theorem State.drawNVZ_fD (s : State) : (s.drawNVZ).fD = s.fD := rfl
@[simp] theorem State.drawNVZ_fI (s : State) : (s.drawNVZ).fI = s.fI := rfl
@[simp] theorem State.drawNVZ_fZ (s : State) : (s.drawNVZ).fZ = Config.freeBit (s.draws + 2) := rfl
@[simp] theorem State.drawNVZ_fC (s : State) : (s.drawNVZ).fC = s.fC := rfl
@[simp] theorem State.drawNVZ_iBefore (s : State) : (s.drawNVZ).iBefore = s.iBefore := rfl
@[simp] theorem State.drawNVZ_nmiPending (s : State) : (s.drawNVZ).nmiPending = s.nmiPending := rfl
@[simp] theorem State.drawNVZ_irqLine (s : State) : (s.drawNVZ).irqLine = s.irqLine := rfl
@[simp] theorem State.drawNVZ_resetReq (s : State) : (s.drawNVZ).resetReq = s.resetReq := rfl
@[simp] theorem State.drawNVZ_inputs (s : State) : (s.drawNVZ).inputs = s.inputs := rfl
@[simp] theorem State.drawNVZ_mem (s : State) : (s.drawNVZ).mem = s.mem := rfl
@[simp] theorem State.drawNVZ_regions (s : State) : (s.drawNVZ).regions = s.regions := rfl
@[simp] theorem State.drawNVZ_vecNmi (s : State) : (s.drawNVZ).vecNmi = s.vecNmi := rfl
@[simp] theorem State.drawNVZ_vecReset (s : State) : (s.drawNVZ).vecReset = s.vecReset := rfl
@[simp] theorem State.drawNVZ_vecIrq (s : State) : (s.drawNVZ).vecIrq = s.vecIrq := rfl
@[simp] theorem State.drawNVZ_devLog (s : State) : (s.drawNVZ).devLog = s.devLog := rfl
@[simp] theorem State.drawNVZ_draws (s : State) : (s.drawNVZ).draws = s.draws + 3 := rfl

/-! `State.drawAC` -/
@[simp] theorem State.drawAC_a (s : State) : (s.drawAC).a = Config.freeByte s.draws := rfl
@[simp] theorem State.drawAC_x (s : State) : (s.drawAC).x = s.x := rfl
@[simp] theorem State.drawAC_y (s : State) : (s.drawAC).y = s.y := rfl
@[simp] theorem State.drawAC_sp (s : State) : (s.drawAC).sp = s.sp := rfl
@[simp] theorem State.drawAC_pc (s : State) : (s.drawAC).pc = s.pc := rfl
@[simp] theorem State.drawAC_fN (s : State) : (s.drawAC).fN = s.fN := rfl
@[simp] theorem State.drawAC_fV (s : State) : (s.drawAC).fV = s.fV := rfl
@[simp] theorem State.drawAC_fD (s : State) : (s.drawAC).fD = s.fD := rfl
@[simp] theorem State.drawAC_fI (s : State) : (s.drawAC).fI = s.fI := rfl
@[simp] theorem State.drawAC_fZ (s : State) : (s.drawAC).fZ = s.fZ := rfl
@[simp] theorem State.drawAC_fC (s : State) : (s.drawAC).fC = Config.freeBit (s.draws + 1) := rfl
@[simp] theorem State.drawAC_iBefore (s : State) : (s.drawAC).iBefore = s.iBefore := rfl
@[simp] theorem State.drawAC_nmiPending (s : State) : (s.drawAC).nmiPending = s.nmiPending := rfl
@[simp] theorem State.drawAC_irqLine (s : State) : (s.drawAC).irqLine = s.irqLine := rfl
@[simp] theorem State.drawAC_resetReq (s : State) : (s.drawAC).resetReq = s.resetReq := rfl
@[simp] theorem State.drawAC_inputs (s : State) : (s.drawAC).inputs = s.inputs := rfl
@[simp] theorem State.drawAC_mem (s : State) : (s.drawAC).mem = s.mem := rfl
@[simp] theorem State.drawAC_regions (s : State) : (s.drawAC).regions = s.regions := rfl
@[simp] theorem State.drawAC_vecNmi (s : State) : (s.drawAC).vecNmi = s.vecNmi := rfl
@[simp] theorem State.drawAC_vecReset (s : State) : (s.drawAC).vecReset = s.vecReset := rfl
@[simp] theorem State.drawAC_vecIrq (s : State) : (s.drawAC).vecIrq = s.vecIrq := rfl
@[simp] theorem State.drawAC_devLog (s : State) : (s.drawAC).devLog = s.devLog := rfl
@[simp] theorem State.drawAC_draws (s : State) : (s.drawAC).draws = s.draws + 2 := rfl

/-! `State.silence` -/
@[simp] theorem State.silence_a (s : State) : (s.silence).a = s.a := rfl
@[simp] theorem State.silence_x (s : State) : (s.silence).x = s.x := rfl
@[simp] theorem State.silence_y (s : State) : (s.silence).y = s.y := rfl
@[simp] theorem State.silence_sp (s : State) : (s.silence).sp = s.sp := rfl
@[simp] theorem State.silence_pc (s : State) : (s.silence).pc = s.pc := rfl
@[simp] theorem State.silence_fN (s : State) : (s.silence).fN = s.fN := rfl
@[simp] theorem State.silence_fV (s : State) : (s.silence).fV = s.fV := rfl
@[simp] theorem State.silence_fD (s : State) : (s.silence).fD = s.fD := rfl
@[simp] theorem State.silence_fI (s : State) : (s.silence).fI = s.fI := rfl
@[simp] theorem State.silence_fZ (s : State) : (s.silence).fZ = s.fZ := rfl
@[simp] theorem State.silence_fC (s : State) : (s.silence).fC = s.fC := rfl
@[simp] theorem State.silence_iBefore (s : State) : (s.silence).iBefore = s.iBefore := rfl
@[simp] theorem State.silence_nmiPending (s : State) : (s.silence).nmiPending = false := rfl
@[simp] theorem State.silence_irqLine (s : State) : (s.silence).irqLine = false := rfl
@[simp] theorem State.silence_resetReq (s : State) : (s.silence).resetReq = false := rfl
@[simp] theorem State.silence_inputs (s : State) : (s.silence).inputs = [] := rfl
@[simp] theorem State.silence_mem (s : State) : (s.silence).mem = s.mem := rfl
@[simp] theorem State.silence_regions (s : State) : (s.silence).regions = s.regions := rfl
@[simp] theorem State.silence_vecNmi (s : State) : (s.silence).vecNmi = s.vecNmi := rfl
@[simp] theorem State.silence_vecReset (s : State) : (s.silence).vecReset = s.vecReset := rfl
@[simp] theorem State.silence_vecIrq (s : State) : (s.silence).vecIrq = s.vecIrq := rfl
@[simp] theorem State.silence_devLog (s : State) : (s.silence).devLog = s.devLog := rfl
@[simp] theorem State.silence_draws (s : State) : (s.silence).draws = s.draws := rfl

/-! `State.loadA` -/
@[simp] theorem State.loadA_a (s : State) (v : Byte) : (s.loadA v).a = v := rfl
@[simp] theorem State.loadA_x (s : State) (v : Byte) : (s.loadA v).x = s.x := rfl
@[simp] theorem State.loadA_y (s : State) (v : Byte) : (s.loadA v).y = s.y := rfl
@[simp] theorem State.loadA_sp (s : State) (v : Byte) : (s.loadA v).sp = s.sp := rfl
@[simp] theorem State.loadA_pc (s : State) (v : Byte) : (s.loadA v).pc = s.pc := rfl
@[simp] theorem State.loadA_fN (s : State) (v : Byte) : (s.loadA v).fN = v.getLsbD 7 := rfl
@[simp] theorem State.loadA_fV (s : State) (v : Byte) : (s.loadA v).fV = s.fV := rfl
@[simp] theorem State.loadA_fD (s : State) (v : Byte) : (s.loadA v).fD = s.fD := rfl
@[simp] theorem State.loadA_fI (s : State) (v : Byte) : (s.loadA v).fI = s.fI := rfl
@[simp] theorem State.loadA_fZ (s : State) (v : Byte) : (s.loadA v).fZ = (v == 0#8) := rfl
@[simp] theorem State.loadA_fC (s : State) (v : Byte) : (s.loadA v).fC = s.fC := rfl
@[simp] theorem State.loadA_iBefore (s : State) (v : Byte) : (s.loadA v).iBefore = s.iBefore := rfl
@[simp] theorem State.loadA_nmiPending (s : State) (v : Byte) : (s.loadA v).nmiPending = s.nmiPending := rfl
@[simp] theorem State.loadA_irqLine (s : State) (v : Byte) : (s.loadA v).irqLine = s.irqLine := rfl
@[simp] theorem State.loadA_resetReq (s : State) (v : Byte) : (s.loadA v).resetReq = s.resetReq := rfl
@[simp] theorem State.loadA_inputs (s : State) (v : Byte) : (s.loadA v).inputs = s.inputs := rfl
@[simp] theorem State.loadA_mem (s : State) (v : Byte) : (s.loadA v).mem = s.mem := rfl
@[simp] theorem State.loadA_regions (s : State) (v : Byte) : (s.loadA v).regions = s.regions := rfl
@[simp] theorem State.loadA_vecNmi (s : State) (v : Byte) : (s.loadA v).vecNmi = s.vecNmi := rfl
@[simp] theorem State.loadA_vecReset (s : State) (v : Byte) : (s.loadA v).vecReset = s.vecReset := rfl
@[simp] theorem State.loadA_vecIrq (s : State) (v : Byte) : (s.loadA v).vecIrq = s.vecIrq := rfl
@[simp] theorem State.loadA_devLog (s : State) (v : Byte) : (s.loadA v).devLog = s.devLog := rfl
@[simp] theorem State.loadA_draws (s : State) (v : Byte) : (s.loadA v).draws = s.draws := rfl

/-! `State.loadX` -/
@[simp] theorem State.loadX_a (s : State) (v : Byte) : (s.loadX v).a = s.a := rfl
@[simp] theorem State.loadX_x (s : State) (v : Byte) : (s.loadX v).x = v := rfl
@[simp] theorem State.loadX_y (s : State) (v : Byte) : (s.loadX v).y = s.y := rfl
@[simp] theorem State.loadX_sp (s : State) (v : Byte) : (s.loadX v).sp = s.sp := rfl
@[simp] theorem State.loadX_pc (s : State) (v : Byte) : (s.loadX v).pc = s.pc := rfl
@[simp] theorem State.loadX_fN (s : State) (v : Byte) : (s.loadX v).fN = v.getLsbD 7 := rfl
@[simp] theorem State.loadX_fV (s : State) (v : Byte) : (s.loadX v).fV = s.fV := rfl
@[simp] theorem State.loadX_fD (s : State) (v : Byte) : (s.loadX v).fD = s.fD := rfl
@[simp] theorem State.loadX_fI (s : State) (v : Byte) : (s.loadX v).fI = s.fI := rfl
@[simp] theorem State.loadX_fZ (s : State) (v : Byte) : (s.loadX v).fZ = (v == 0#8) := rfl
@[simp] theorem State.loadX_fC (s : State) (v : Byte) : (s.loadX v).fC = s.fC := rfl
@[simp] theorem State.loadX_iBefore (s : State) (v : Byte) : (s.loadX v).iBefore = s.iBefore := rfl
@[simp] theorem State.loadX_nmiPending (s : State) (v : Byte) : (s.loadX v).nmiPending = s.nmiPending := rfl
@[simp] theorem State.loadX_irqLine (s : State) (v : Byte) : (s.loadX v).irqLine = s.irqLine := rfl
@[simp] theorem State.loadX_resetReq (s : State) (v : Byte) : (s.loadX v).resetReq = s.resetReq := rfl
@[simp] theorem State.loadX_inputs (s : State) (v : Byte) : (s.loadX v).inputs = s.inputs := rfl
@[simp] theorem State.loadX_mem (s : State) (v : Byte) : (s.loadX v).mem = s.mem := rfl
@[simp] theorem State.loadX_regions (s : State) (v : Byte) : (s.loadX v).regions = s.regions := rfl
@[simp] theorem State.loadX_vecNmi (s : State) (v : Byte) : (s.loadX v).vecNmi = s.vecNmi := rfl
@[simp] theorem State.loadX_vecReset (s : State) (v : Byte) : (s.loadX v).vecReset = s.vecReset := rfl
@[simp] theorem State.loadX_vecIrq (s : State) (v : Byte) : (s.loadX v).vecIrq = s.vecIrq := rfl
@[simp] theorem State.loadX_devLog (s : State) (v : Byte) : (s.loadX v).devLog = s.devLog := rfl
@[simp] theorem State.loadX_draws (s : State) (v : Byte) : (s.loadX v).draws = s.draws := rfl

/-! `State.loadY` -/
@[simp] theorem State.loadY_a (s : State) (v : Byte) : (s.loadY v).a = s.a := rfl
@[simp] theorem State.loadY_x (s : State) (v : Byte) : (s.loadY v).x = s.x := rfl
@[simp] theorem State.loadY_y (s : State) (v : Byte) : (s.loadY v).y = v := rfl
@[simp] theorem State.loadY_sp (s : State) (v : Byte) : (s.loadY v).sp = s.sp := rfl
@[simp] theorem State.loadY_pc (s : State) (v : Byte) : (s.loadY v).pc = s.pc := rfl
@[simp] theorem State.loadY_fN (s : State) (v : Byte) : (s.loadY v).fN = v.getLsbD 7 := rfl
@[simp] theorem State.loadY_fV (s : State) (v : Byte) : (s.loadY v).fV = s.fV := rfl
@[simp] theorem State.loadY_fD (s : State) (v : Byte) : (s.loadY v).fD = s.fD := rfl
@[simp] theorem State.loadY_fI (s : State) (v : Byte) : (s.loadY v).fI = s.fI := rfl
@[simp] theorem State.loadY_fZ (s : State) (v : Byte) : (s.loadY v).fZ = (v == 0#8) := rfl
@[simp] theorem State.loadY_fC (s : State) (v : Byte) : (s.loadY v).fC = s.fC := rfl
@[simp] theorem State.loadY_iBefore (s : State) (v : Byte) : (s.loadY v).iBefore = s.iBefore := rfl
@[simp] theorem State.loadY_nmiPending (s : State) (v : Byte) : (s.loadY v).nmiPending = s.nmiPending := rfl
@[simp] theorem State.loadY_irqLine (s : State) (v : Byte) : (s.loadY v).irqLine = s.irqLine := rfl
@[simp] theorem State.loadY_resetReq (s : State) (v : Byte) : (s.loadY v).resetReq = s.resetReq := rfl
@[simp] theorem State.loadY_inputs (s : State) (v : Byte) : (s.loadY v).inputs = s.inputs := rfl
@[simp] theorem State.loadY_mem (s : State) (v : Byte) : (s.loadY v).mem = s.mem := rfl
@[simp] theorem State.loadY_regions (s : State) (v : Byte) : (s.loadY v).regions = s.regions := rfl
@[simp] theorem State.loadY_vecNmi (s : State) (v : Byte) : (s.loadY v).vecNmi = s.vecNmi := rfl
@[simp] theorem State.loadY_vecReset (s : State) (v : Byte) : (s.loadY v).vecReset = s.vecReset := rfl
@[simp] theorem State.loadY_vecIrq (s : State) (v : Byte) : (s.loadY v).vecIrq = s.vecIrq := rfl
@[simp] theorem State.loadY_devLog (s : State) (v : Byte) : (s.loadY v).devLog = s.devLog := rfl
@[simp] theorem State.loadY_draws (s : State) (v : Byte) : (s.loadY v).draws = s.draws := rfl

/-! `State.compare` -/
@[simp] theorem State.compare_a (s : State) (r m : Byte) : (s.compare r m).a = s.a := rfl
@[simp] theorem State.compare_x (s : State) (r m : Byte) : (s.compare r m).x = s.x := rfl
@[simp] theorem State.compare_y (s : State) (r m : Byte) : (s.compare r m).y = s.y := rfl
@[simp] theorem State.compare_sp (s : State) (r m : Byte) : (s.compare r m).sp = s.sp := rfl
@[simp] theorem State.compare_pc (s : State) (r m : Byte) : (s.compare r m).pc = s.pc := rfl
@[simp] theorem State.compare_fN (s : State) (r m : Byte) : (s.compare r m).fN = (r - m).getLsbD 7 := rfl
@[simp] theorem State.compare_fV (s : State) (r m : Byte) : (s.compare r m).fV = s.fV := rfl
@[simp] theorem State.compare_fD (s : State) (r m : Byte) : (s.compare r m).fD = s.fD := rfl
@[simp] theorem State.compare_fI (s : State) (r m : Byte) : (s.compare r m).fI = s.fI := rfl
@[simp] theorem State.compare_fZ (s : State) (r m : Byte) : (s.compare r m).fZ = (r == m) := rfl
@[simp] theorem State.compare_fC (s : State) (r m : Byte) : (s.compare r m).fC = decide (m.toNat ≤ r.toNat) :=
  rfl
@[simp] theorem State.compare_iBefore (s : State) (r m : Byte) : (s.compare r m).iBefore = s.iBefore := rfl
@[simp] theorem State.compare_nmiPending (s : State) (r m : Byte) : (s.compare r m).nmiPending = s.nmiPending :=
  rfl
@[simp] theorem State.compare_irqLine (s : State) (r m : Byte) : (s.compare r m).irqLine = s.irqLine := rfl
@[simp] theorem State.compare_resetReq (s : State) (r m : Byte) : (s.compare r m).resetReq = s.resetReq := rfl
@[simp] theorem State.compare_inputs (s : State) (r m : Byte) : (s.compare r m).inputs = s.inputs := rfl
@[simp] theorem State.compare_mem (s : State) (r m : Byte) : (s.compare r m).mem = s.mem := rfl
@[simp] theorem State.compare_regions (s : State) (r m : Byte) : (s.compare r m).regions = s.regions := rfl
@[simp] theorem State.compare_vecNmi (s : State) (r m : Byte) : (s.compare r m).vecNmi = s.vecNmi := rfl
@[simp] theorem State.compare_vecReset (s : State) (r m : Byte) : (s.compare r m).vecReset = s.vecReset := rfl
@[simp] theorem State.compare_vecIrq (s : State) (r m : Byte) : (s.compare r m).vecIrq = s.vecIrq := rfl
@[simp] theorem State.compare_devLog (s : State) (r m : Byte) : (s.compare r m).devLog = s.devLog := rfl
@[simp] theorem State.compare_draws (s : State) (r m : Byte) : (s.compare r m).draws = s.draws := rfl

/-! `State.bitTest` -/
@[simp] theorem State.bitTest_a (s : State) (m : Byte) : (s.bitTest m).a = s.a := rfl
@[simp] theorem State.bitTest_x (s : State) (m : Byte) : (s.bitTest m).x = s.x := rfl
@[simp] theorem State.bitTest_y (s : State) (m : Byte) : (s.bitTest m).y = s.y := rfl
@[simp] theorem State.bitTest_sp (s : State) (m : Byte) : (s.bitTest m).sp = s.sp := rfl
@[simp] theorem State.bitTest_pc (s : State) (m : Byte) : (s.bitTest m).pc = s.pc := rfl
@[simp] theorem State.bitTest_fN (s : State) (m : Byte) : (s.bitTest m).fN = m.getLsbD 7 := rfl
@[simp] theorem State.bitTest_fV (s : State) (m : Byte) : (s.bitTest m).fV = m.getLsbD 6 := rfl
@[simp] theorem State.bitTest_fD (s : State) (m : Byte) : (s.bitTest m).fD = s.fD := rfl
@[simp] theorem State.bitTest_fI (s : State) (m : Byte) : (s.bitTest m).fI = s.fI := rfl
@[simp] theorem State.bitTest_fZ (s : State) (m : Byte) : (s.bitTest m).fZ = ((s.a &&& m) == 0#8) := rfl
@[simp] theorem State.bitTest_fC (s : State) (m : Byte) : (s.bitTest m).fC = s.fC := rfl
@[simp] theorem State.bitTest_iBefore (s : State) (m : Byte) : (s.bitTest m).iBefore = s.iBefore := rfl
@[simp] theorem State.bitTest_nmiPending (s : State) (m : Byte) : (s.bitTest m).nmiPending = s.nmiPending := rfl
@[simp] theorem State.bitTest_irqLine (s : State) (m : Byte) : (s.bitTest m).irqLine = s.irqLine := rfl
@[simp] theorem State.bitTest_resetReq (s : State) (m : Byte) : (s.bitTest m).resetReq = s.resetReq := rfl
@[simp] theorem State.bitTest_inputs (s : State) (m : Byte) : (s.bitTest m).inputs = s.inputs := rfl
@[simp] theorem State.bitTest_mem (s : State) (m : Byte) : (s.bitTest m).mem = s.mem := rfl
@[simp] theorem State.bitTest_regions (s : State) (m : Byte) : (s.bitTest m).regions = s.regions := rfl
@[simp] theorem State.bitTest_vecNmi (s : State) (m : Byte) : (s.bitTest m).vecNmi = s.vecNmi := rfl
@[simp] theorem State.bitTest_vecReset (s : State) (m : Byte) : (s.bitTest m).vecReset = s.vecReset := rfl
@[simp] theorem State.bitTest_vecIrq (s : State) (m : Byte) : (s.bitTest m).vecIrq = s.vecIrq := rfl
@[simp] theorem State.bitTest_devLog (s : State) (m : Byte) : (s.bitTest m).devLog = s.devLog := rfl
@[simp] theorem State.bitTest_draws (s : State) (m : Byte) : (s.bitTest m).draws = s.draws := rfl

/-! `State.drawByte` and `State.drawBit` -/
@[simp] theorem State.drawByte_a (s : State) : (s.drawByte.2).a = s.a := rfl
@[simp] theorem State.drawByte_x (s : State) : (s.drawByte.2).x = s.x := rfl
@[simp] theorem State.drawByte_y (s : State) : (s.drawByte.2).y = s.y := rfl
@[simp] theorem State.drawByte_sp (s : State) : (s.drawByte.2).sp = s.sp := rfl
@[simp] theorem State.drawByte_pc (s : State) : (s.drawByte.2).pc = s.pc := rfl
@[simp] theorem State.drawByte_fN (s : State) : (s.drawByte.2).fN = s.fN := rfl
@[simp] theorem State.drawByte_fV (s : State) : (s.drawByte.2).fV = s.fV := rfl
@[simp] theorem State.drawByte_fD (s : State) : (s.drawByte.2).fD = s.fD := rfl
@[simp] theorem State.drawByte_fI (s : State) : (s.drawByte.2).fI = s.fI := rfl
@[simp] theorem State.drawByte_fZ (s : State) : (s.drawByte.2).fZ = s.fZ := rfl
@[simp] theorem State.drawByte_fC (s : State) : (s.drawByte.2).fC = s.fC := rfl
@[simp] theorem State.drawByte_iBefore (s : State) : (s.drawByte.2).iBefore = s.iBefore := rfl
@[simp] theorem State.drawByte_nmiPending (s : State) : (s.drawByte.2).nmiPending = s.nmiPending := rfl
@[simp] theorem State.drawByte_irqLine (s : State) : (s.drawByte.2).irqLine = s.irqLine := rfl
@[simp] theorem State.drawByte_resetReq (s : State) : (s.drawByte.2).resetReq = s.resetReq := rfl
@[simp] theorem State.drawByte_inputs (s : State) : (s.drawByte.2).inputs = s.inputs := rfl
@[simp] theorem State.drawByte_mem (s : State) : (s.drawByte.2).mem = s.mem := rfl
@[simp] theorem State.drawByte_regions (s : State) : (s.drawByte.2).regions = s.regions := rfl
@[simp] theorem State.drawByte_vecNmi (s : State) : (s.drawByte.2).vecNmi = s.vecNmi := rfl
@[simp] theorem State.drawByte_vecReset (s : State) : (s.drawByte.2).vecReset = s.vecReset := rfl
@[simp] theorem State.drawByte_vecIrq (s : State) : (s.drawByte.2).vecIrq = s.vecIrq := rfl
@[simp] theorem State.drawByte_devLog (s : State) : (s.drawByte.2).devLog = s.devLog := rfl
@[simp] theorem State.drawByte_draws (s : State) : (s.drawByte.2).draws = s.draws + 1 := rfl

@[simp] theorem State.drawBit_a (s : State) : (s.drawBit.2).a = s.a := rfl
@[simp] theorem State.drawBit_x (s : State) : (s.drawBit.2).x = s.x := rfl
@[simp] theorem State.drawBit_y (s : State) : (s.drawBit.2).y = s.y := rfl
@[simp] theorem State.drawBit_sp (s : State) : (s.drawBit.2).sp = s.sp := rfl
@[simp] theorem State.drawBit_pc (s : State) : (s.drawBit.2).pc = s.pc := rfl
@[simp] theorem State.drawBit_fN (s : State) : (s.drawBit.2).fN = s.fN := rfl
@[simp] theorem State.drawBit_fV (s : State) : (s.drawBit.2).fV = s.fV := rfl
@[simp] theorem State.drawBit_fD (s : State) : (s.drawBit.2).fD = s.fD := rfl
@[simp] theorem State.drawBit_fI (s : State) : (s.drawBit.2).fI = s.fI := rfl
@[simp] theorem State.drawBit_fZ (s : State) : (s.drawBit.2).fZ = s.fZ := rfl
@[simp] theorem State.drawBit_fC (s : State) : (s.drawBit.2).fC = s.fC := rfl
@[simp] theorem State.drawBit_iBefore (s : State) : (s.drawBit.2).iBefore = s.iBefore := rfl
@[simp] theorem State.drawBit_nmiPending (s : State) : (s.drawBit.2).nmiPending = s.nmiPending := rfl
@[simp] theorem State.drawBit_irqLine (s : State) : (s.drawBit.2).irqLine = s.irqLine := rfl
@[simp] theorem State.drawBit_resetReq (s : State) : (s.drawBit.2).resetReq = s.resetReq := rfl
@[simp] theorem State.drawBit_inputs (s : State) : (s.drawBit.2).inputs = s.inputs := rfl
@[simp] theorem State.drawBit_mem (s : State) : (s.drawBit.2).mem = s.mem := rfl
@[simp] theorem State.drawBit_regions (s : State) : (s.drawBit.2).regions = s.regions := rfl
@[simp] theorem State.drawBit_vecNmi (s : State) : (s.drawBit.2).vecNmi = s.vecNmi := rfl
@[simp] theorem State.drawBit_vecReset (s : State) : (s.drawBit.2).vecReset = s.vecReset := rfl
@[simp] theorem State.drawBit_vecIrq (s : State) : (s.drawBit.2).vecIrq = s.vecIrq := rfl
@[simp] theorem State.drawBit_devLog (s : State) : (s.drawBit.2).devLog = s.devLog := rfl
@[simp] theorem State.drawBit_draws (s : State) : (s.drawBit.2).draws = s.draws + 1 := rfl

/-! `State.kindOf` reads the map alone. -/

theorem State.kindOf_congr {s t : State} (h : s.regions = t.regions) (a : Word) : s.kindOf a = t.kindOf a := by
  simp only [State.kindOf, h]

/-- Pages 0 and 1 are RAM (R58). -/
@[simp] theorem State.kindOf_low (s : State) {a : Word} (h : a.toNat < 512) : s.kindOf a = .ram := by
  simp [State.kindOf, h]

/-- A zero-page address is RAM. -/
@[simp] theorem State.kindOf_zext16 (s : State) (b : Byte) : s.kindOf (zext16 b) = .ram :=
  s.kindOf_low (by have := b.isLt; simp; omega)

/-- A stack address is RAM. -/
@[simp] theorem State.kindOf_stackAddr (s : State) (p : Byte) : s.kindOf (stackAddr p) = .ram :=
  s.kindOf_low (by have := p.isLt; simp; omega)

/-! `State.readByte`: nothing but the count of draws and the devices' log can change. -/

@[simp] theorem State.readByte_a (s : State) (w : Word) : ((s.readByte w).2).a = s.a :=
  by
  simp only [State.readByte]; split <;> rfl
@[simp] theorem State.readByte_x (s : State) (w : Word) : ((s.readByte w).2).x = s.x :=
  by
  simp only [State.readByte]; split <;> rfl
@[simp] theorem State.readByte_y (s : State) (w : Word) : ((s.readByte w).2).y = s.y :=
  by
  simp only [State.readByte]; split <;> rfl
@[simp] theorem State.readByte_sp (s : State) (w : Word) : ((s.readByte w).2).sp = s.sp :=
  by
  simp only [State.readByte]; split <;> rfl
@[simp] theorem State.readByte_pc (s : State) (w : Word) : ((s.readByte w).2).pc = s.pc :=
  by
  simp only [State.readByte]; split <;> rfl
@[simp] theorem State.readByte_fN (s : State) (w : Word) : ((s.readByte w).2).fN = s.fN :=
  by
  simp only [State.readByte]; split <;> rfl
@[simp] theorem State.readByte_fV (s : State) (w : Word) : ((s.readByte w).2).fV = s.fV :=
  by
  simp only [State.readByte]; split <;> rfl
@[simp] theorem State.readByte_fD (s : State) (w : Word) : ((s.readByte w).2).fD = s.fD :=
  by
  simp only [State.readByte]; split <;> rfl
@[simp] theorem State.readByte_fI (s : State) (w : Word) : ((s.readByte w).2).fI = s.fI :=
  by
  simp only [State.readByte]; split <;> rfl
@[simp] theorem State.readByte_fZ (s : State) (w : Word) : ((s.readByte w).2).fZ = s.fZ :=
  by
  simp only [State.readByte]; split <;> rfl
@[simp] theorem State.readByte_fC (s : State) (w : Word) : ((s.readByte w).2).fC = s.fC :=
  by
  simp only [State.readByte]; split <;> rfl
@[simp] theorem State.readByte_iBefore (s : State) (w : Word) : ((s.readByte w).2).iBefore = s.iBefore :=
  by
  simp only [State.readByte]; split <;> rfl
@[simp] theorem State.readByte_nmiPending (s : State) (w : Word) : ((s.readByte w).2).nmiPending = s.nmiPending :=
  by
  simp only [State.readByte]; split <;> rfl
@[simp] theorem State.readByte_irqLine (s : State) (w : Word) : ((s.readByte w).2).irqLine = s.irqLine :=
  by
  simp only [State.readByte]; split <;> rfl
@[simp] theorem State.readByte_resetReq (s : State) (w : Word) : ((s.readByte w).2).resetReq = s.resetReq :=
  by
  simp only [State.readByte]; split <;> rfl
@[simp] theorem State.readByte_inputs (s : State) (w : Word) : ((s.readByte w).2).inputs = s.inputs :=
  by
  simp only [State.readByte]; split <;> rfl
@[simp] theorem State.readByte_mem (s : State) (w : Word) : ((s.readByte w).2).mem = s.mem :=
  by
  simp only [State.readByte]; split <;> rfl
@[simp] theorem State.readByte_regions (s : State) (w : Word) : ((s.readByte w).2).regions = s.regions :=
  by
  simp only [State.readByte]; split <;> rfl
@[simp] theorem State.readByte_vecNmi (s : State) (w : Word) : ((s.readByte w).2).vecNmi = s.vecNmi :=
  by
  simp only [State.readByte]; split <;> rfl
@[simp] theorem State.readByte_vecReset (s : State) (w : Word) : ((s.readByte w).2).vecReset = s.vecReset :=
  by
  simp only [State.readByte]; split <;> rfl
@[simp] theorem State.readByte_vecIrq (s : State) (w : Word) : ((s.readByte w).2).vecIrq = s.vecIrq :=
  by
  simp only [State.readByte]; split <;> rfl

/-! `State.writeByte`: nothing but memory and the devices' log can change. -/

@[simp] theorem State.writeByte_a (s : State) (w : Word) (b : Byte) : (s.writeByte w b).a = s.a :=
  by
  simp only [State.writeByte]; split <;> rfl
@[simp] theorem State.writeByte_x (s : State) (w : Word) (b : Byte) : (s.writeByte w b).x = s.x :=
  by
  simp only [State.writeByte]; split <;> rfl
@[simp] theorem State.writeByte_y (s : State) (w : Word) (b : Byte) : (s.writeByte w b).y = s.y :=
  by
  simp only [State.writeByte]; split <;> rfl
@[simp] theorem State.writeByte_sp (s : State) (w : Word) (b : Byte) : (s.writeByte w b).sp = s.sp :=
  by
  simp only [State.writeByte]; split <;> rfl
@[simp] theorem State.writeByte_pc (s : State) (w : Word) (b : Byte) : (s.writeByte w b).pc = s.pc :=
  by
  simp only [State.writeByte]; split <;> rfl
@[simp] theorem State.writeByte_fN (s : State) (w : Word) (b : Byte) : (s.writeByte w b).fN = s.fN :=
  by
  simp only [State.writeByte]; split <;> rfl
@[simp] theorem State.writeByte_fV (s : State) (w : Word) (b : Byte) : (s.writeByte w b).fV = s.fV :=
  by
  simp only [State.writeByte]; split <;> rfl
@[simp] theorem State.writeByte_fD (s : State) (w : Word) (b : Byte) : (s.writeByte w b).fD = s.fD :=
  by
  simp only [State.writeByte]; split <;> rfl
@[simp] theorem State.writeByte_fI (s : State) (w : Word) (b : Byte) : (s.writeByte w b).fI = s.fI :=
  by
  simp only [State.writeByte]; split <;> rfl
@[simp] theorem State.writeByte_fZ (s : State) (w : Word) (b : Byte) : (s.writeByte w b).fZ = s.fZ :=
  by
  simp only [State.writeByte]; split <;> rfl
@[simp] theorem State.writeByte_fC (s : State) (w : Word) (b : Byte) : (s.writeByte w b).fC = s.fC :=
  by
  simp only [State.writeByte]; split <;> rfl
@[simp] theorem State.writeByte_iBefore (s : State) (w : Word) (b : Byte) : (s.writeByte w b).iBefore = s.iBefore :=
  by
  simp only [State.writeByte]; split <;> rfl
@[simp] theorem State.writeByte_nmiPending (s : State) (w : Word) (b : Byte) : (s.writeByte w b).nmiPending = s.nmiPending :=
  by
  simp only [State.writeByte]; split <;> rfl
@[simp] theorem State.writeByte_irqLine (s : State) (w : Word) (b : Byte) : (s.writeByte w b).irqLine = s.irqLine :=
  by
  simp only [State.writeByte]; split <;> rfl
@[simp] theorem State.writeByte_resetReq (s : State) (w : Word) (b : Byte) : (s.writeByte w b).resetReq = s.resetReq :=
  by
  simp only [State.writeByte]; split <;> rfl
@[simp] theorem State.writeByte_inputs (s : State) (w : Word) (b : Byte) : (s.writeByte w b).inputs = s.inputs :=
  by
  simp only [State.writeByte]; split <;> rfl
@[simp] theorem State.writeByte_regions (s : State) (w : Word) (b : Byte) : (s.writeByte w b).regions = s.regions :=
  by
  simp only [State.writeByte]; split <;> rfl
@[simp] theorem State.writeByte_vecNmi (s : State) (w : Word) (b : Byte) : (s.writeByte w b).vecNmi = s.vecNmi :=
  by
  simp only [State.writeByte]; split <;> rfl
@[simp] theorem State.writeByte_vecReset (s : State) (w : Word) (b : Byte) : (s.writeByte w b).vecReset = s.vecReset :=
  by
  simp only [State.writeByte]; split <;> rfl
@[simp] theorem State.writeByte_vecIrq (s : State) (w : Word) (b : Byte) : (s.writeByte w b).vecIrq = s.vecIrq :=
  by
  simp only [State.writeByte]; split <;> rfl
@[simp] theorem State.writeByte_draws (s : State) (w : Word) (b : Byte) : (s.writeByte w b).draws = s.draws :=
  by
  simp only [State.writeByte]; split <;> rfl

/-! The stack is RAM, so pushes and pulls are memory accesses and nothing else. -/

/-- A read of the stack page. -/
@[simp] theorem State.readByte_stackAddr (s : State) (p : Byte) :
    s.readByte (stackAddr p) = (s.mem.read (stackAddr p), s) := by simp [State.readByte]

/-- A write of the stack page. -/
@[simp] theorem State.writeByte_stackAddr (s : State) (p : Byte) (b : Byte) :
    s.writeByte (stackAddr p) b = { s with mem := s.mem.write (stackAddr p) b } := by simp [State.writeByte]

/-- Stack offsets add up. -/
@[simp] theorem sub_one_one (p : Byte) : p - 1#8 - 1#8 = p - 2#8 := by bv_omega

@[simp] theorem sub_two_one (p : Byte) : p - 2#8 - 1#8 = p - 3#8 := by bv_omega

@[simp] theorem add_one_one (p : Byte) : p + 1#8 + 1#8 = p + 2#8 := by bv_omega

@[simp] theorem add_two_one (p : Byte) : p + 2#8 + 1#8 = p + 3#8 := by bv_omega

@[simp] theorem add_one_two (p : Byte) : p + 1#8 + 2#8 = p + 3#8 := by bv_omega

@[simp] theorem sub_one_two (p : Byte) : p - 1#8 - 2#8 = p - 3#8 := by bv_omega

/-- A push as one update (R59). -/
theorem State.push_eq (s : State) (b : Byte) :
    s.push b = { s with mem := s.mem.write (stackAddr s.sp) b, sp := s.sp - 1#8 } := by simp [State.push]

/-- A pull as one update (R60). -/
theorem State.pull_eq (s : State) :
    s.pull = (s.mem.read (stackAddr (s.sp + 1#8)), { s with sp := s.sp + 1#8 }) := by simp [State.pull]

/-- A word pushed as one update (R53). -/
theorem State.pushWord_eq (s : State) (w : Word) :
    s.pushWord w = { s with
      mem := (s.mem.write (stackAddr s.sp) (hi w)).write (stackAddr (s.sp - 1#8)) (lo w)
      sp := s.sp - 2#8 } := by simp [State.pushWord, State.push_eq]

/-- A word pulled as one update (R53). -/
theorem State.pullWord_eq (s : State) :
    s.pullWord = (join (s.mem.read (stackAddr (s.sp + 2#8))) (s.mem.read (stackAddr (s.sp + 1#8))),
      { s with sp := s.sp + 2#8 }) := by simp [State.pullWord, State.pull_eq]

/-! `State.push` and `State.pull`, `State.pushWord` and `State.pullWord`. -/

@[simp] theorem State.push_a (s : State) (b : Byte) : (s.push b).a = s.a := by simp [State.push_eq]
@[simp] theorem State.push_x (s : State) (b : Byte) : (s.push b).x = s.x := by simp [State.push_eq]
@[simp] theorem State.push_y (s : State) (b : Byte) : (s.push b).y = s.y := by simp [State.push_eq]
@[simp] theorem State.push_sp (s : State) (b : Byte) : (s.push b).sp = s.sp - 1#8 := by simp [State.push_eq]
@[simp] theorem State.push_pc (s : State) (b : Byte) : (s.push b).pc = s.pc := by simp [State.push_eq]
@[simp] theorem State.push_fN (s : State) (b : Byte) : (s.push b).fN = s.fN := by simp [State.push_eq]
@[simp] theorem State.push_fV (s : State) (b : Byte) : (s.push b).fV = s.fV := by simp [State.push_eq]
@[simp] theorem State.push_fD (s : State) (b : Byte) : (s.push b).fD = s.fD := by simp [State.push_eq]
@[simp] theorem State.push_fI (s : State) (b : Byte) : (s.push b).fI = s.fI := by simp [State.push_eq]
@[simp] theorem State.push_fZ (s : State) (b : Byte) : (s.push b).fZ = s.fZ := by simp [State.push_eq]
@[simp] theorem State.push_fC (s : State) (b : Byte) : (s.push b).fC = s.fC := by simp [State.push_eq]
@[simp] theorem State.push_iBefore (s : State) (b : Byte) : (s.push b).iBefore = s.iBefore :=
  by simp [State.push_eq]
@[simp] theorem State.push_nmiPending (s : State) (b : Byte) : (s.push b).nmiPending = s.nmiPending :=
  by simp [State.push_eq]
@[simp] theorem State.push_irqLine (s : State) (b : Byte) : (s.push b).irqLine = s.irqLine :=
  by simp [State.push_eq]
@[simp] theorem State.push_resetReq (s : State) (b : Byte) : (s.push b).resetReq = s.resetReq :=
  by simp [State.push_eq]
@[simp] theorem State.push_inputs (s : State) (b : Byte) : (s.push b).inputs = s.inputs :=
  by simp [State.push_eq]
@[simp] theorem State.push_mem (s : State) (b : Byte) : (s.push b).mem = s.mem.write (stackAddr s.sp) b :=
  by simp [State.push_eq]
@[simp] theorem State.push_regions (s : State) (b : Byte) : (s.push b).regions = s.regions :=
  by simp [State.push_eq]
@[simp] theorem State.push_vecNmi (s : State) (b : Byte) : (s.push b).vecNmi = s.vecNmi :=
  by simp [State.push_eq]
@[simp] theorem State.push_vecReset (s : State) (b : Byte) : (s.push b).vecReset = s.vecReset :=
  by simp [State.push_eq]
@[simp] theorem State.push_vecIrq (s : State) (b : Byte) : (s.push b).vecIrq = s.vecIrq :=
  by simp [State.push_eq]
@[simp] theorem State.push_devLog (s : State) (b : Byte) : (s.push b).devLog = s.devLog :=
  by simp [State.push_eq]
@[simp] theorem State.push_draws (s : State) (b : Byte) : (s.push b).draws = s.draws := by simp [State.push_eq]

@[simp] theorem State.pull_a (s : State) : (s.pull.2).a = s.a := by simp [State.pull_eq]
@[simp] theorem State.pull_x (s : State) : (s.pull.2).x = s.x := by simp [State.pull_eq]
@[simp] theorem State.pull_y (s : State) : (s.pull.2).y = s.y := by simp [State.pull_eq]
@[simp] theorem State.pull_sp (s : State) : (s.pull.2).sp = s.sp + 1#8 := by simp [State.pull_eq]
@[simp] theorem State.pull_pc (s : State) : (s.pull.2).pc = s.pc := by simp [State.pull_eq]
@[simp] theorem State.pull_fN (s : State) : (s.pull.2).fN = s.fN := by simp [State.pull_eq]
@[simp] theorem State.pull_fV (s : State) : (s.pull.2).fV = s.fV := by simp [State.pull_eq]
@[simp] theorem State.pull_fD (s : State) : (s.pull.2).fD = s.fD := by simp [State.pull_eq]
@[simp] theorem State.pull_fI (s : State) : (s.pull.2).fI = s.fI := by simp [State.pull_eq]
@[simp] theorem State.pull_fZ (s : State) : (s.pull.2).fZ = s.fZ := by simp [State.pull_eq]
@[simp] theorem State.pull_fC (s : State) : (s.pull.2).fC = s.fC := by simp [State.pull_eq]
@[simp] theorem State.pull_iBefore (s : State) : (s.pull.2).iBefore = s.iBefore := by simp [State.pull_eq]
@[simp] theorem State.pull_nmiPending (s : State) : (s.pull.2).nmiPending = s.nmiPending :=
  by simp [State.pull_eq]
@[simp] theorem State.pull_irqLine (s : State) : (s.pull.2).irqLine = s.irqLine := by simp [State.pull_eq]
@[simp] theorem State.pull_resetReq (s : State) : (s.pull.2).resetReq = s.resetReq := by simp [State.pull_eq]
@[simp] theorem State.pull_inputs (s : State) : (s.pull.2).inputs = s.inputs := by simp [State.pull_eq]
@[simp] theorem State.pull_mem (s : State) : (s.pull.2).mem = s.mem := by simp [State.pull_eq]
@[simp] theorem State.pull_regions (s : State) : (s.pull.2).regions = s.regions := by simp [State.pull_eq]
@[simp] theorem State.pull_vecNmi (s : State) : (s.pull.2).vecNmi = s.vecNmi := by simp [State.pull_eq]
@[simp] theorem State.pull_vecReset (s : State) : (s.pull.2).vecReset = s.vecReset := by simp [State.pull_eq]
@[simp] theorem State.pull_vecIrq (s : State) : (s.pull.2).vecIrq = s.vecIrq := by simp [State.pull_eq]
@[simp] theorem State.pull_devLog (s : State) : (s.pull.2).devLog = s.devLog := by simp [State.pull_eq]
@[simp] theorem State.pull_draws (s : State) : (s.pull.2).draws = s.draws := by simp [State.pull_eq]

@[simp] theorem State.pushWord_a (s : State) (w : Word) : (s.pushWord w).a = s.a := by simp [State.pushWord_eq]
@[simp] theorem State.pushWord_x (s : State) (w : Word) : (s.pushWord w).x = s.x := by simp [State.pushWord_eq]
@[simp] theorem State.pushWord_y (s : State) (w : Word) : (s.pushWord w).y = s.y := by simp [State.pushWord_eq]
@[simp] theorem State.pushWord_sp (s : State) (w : Word) : (s.pushWord w).sp = s.sp - 2#8 :=
  by simp [State.pushWord_eq]
@[simp] theorem State.pushWord_pc (s : State) (w : Word) : (s.pushWord w).pc = s.pc :=
  by simp [State.pushWord_eq]
@[simp] theorem State.pushWord_fN (s : State) (w : Word) : (s.pushWord w).fN = s.fN :=
  by simp [State.pushWord_eq]
@[simp] theorem State.pushWord_fV (s : State) (w : Word) : (s.pushWord w).fV = s.fV :=
  by simp [State.pushWord_eq]
@[simp] theorem State.pushWord_fD (s : State) (w : Word) : (s.pushWord w).fD = s.fD :=
  by simp [State.pushWord_eq]
@[simp] theorem State.pushWord_fI (s : State) (w : Word) : (s.pushWord w).fI = s.fI :=
  by simp [State.pushWord_eq]
@[simp] theorem State.pushWord_fZ (s : State) (w : Word) : (s.pushWord w).fZ = s.fZ :=
  by simp [State.pushWord_eq]
@[simp] theorem State.pushWord_fC (s : State) (w : Word) : (s.pushWord w).fC = s.fC :=
  by simp [State.pushWord_eq]
@[simp] theorem State.pushWord_iBefore (s : State) (w : Word) : (s.pushWord w).iBefore = s.iBefore :=
  by simp [State.pushWord_eq]
@[simp] theorem State.pushWord_nmiPending (s : State) (w : Word) : (s.pushWord w).nmiPending = s.nmiPending :=
  by simp [State.pushWord_eq]
@[simp] theorem State.pushWord_irqLine (s : State) (w : Word) : (s.pushWord w).irqLine = s.irqLine :=
  by simp [State.pushWord_eq]
@[simp] theorem State.pushWord_resetReq (s : State) (w : Word) : (s.pushWord w).resetReq = s.resetReq :=
  by simp [State.pushWord_eq]
@[simp] theorem State.pushWord_inputs (s : State) (w : Word) : (s.pushWord w).inputs = s.inputs :=
  by simp [State.pushWord_eq]
@[simp] theorem State.pushWord_mem (s : State) (w : Word) : (s.pushWord w).mem = (s.mem.write (stackAddr s.sp) (hi w)).write (stackAddr (s.sp - 1#8)) (lo w) :=
  by simp [State.pushWord_eq]
@[simp] theorem State.pushWord_regions (s : State) (w : Word) : (s.pushWord w).regions = s.regions :=
  by simp [State.pushWord_eq]
@[simp] theorem State.pushWord_vecNmi (s : State) (w : Word) : (s.pushWord w).vecNmi = s.vecNmi :=
  by simp [State.pushWord_eq]
@[simp] theorem State.pushWord_vecReset (s : State) (w : Word) : (s.pushWord w).vecReset = s.vecReset :=
  by simp [State.pushWord_eq]
@[simp] theorem State.pushWord_vecIrq (s : State) (w : Word) : (s.pushWord w).vecIrq = s.vecIrq :=
  by simp [State.pushWord_eq]
@[simp] theorem State.pushWord_devLog (s : State) (w : Word) : (s.pushWord w).devLog = s.devLog :=
  by simp [State.pushWord_eq]
@[simp] theorem State.pushWord_draws (s : State) (w : Word) : (s.pushWord w).draws = s.draws :=
  by simp [State.pushWord_eq]

@[simp] theorem State.pullWord_a (s : State) : (s.pullWord.2).a = s.a := by simp [State.pullWord_eq]
@[simp] theorem State.pullWord_x (s : State) : (s.pullWord.2).x = s.x := by simp [State.pullWord_eq]
@[simp] theorem State.pullWord_y (s : State) : (s.pullWord.2).y = s.y := by simp [State.pullWord_eq]
@[simp] theorem State.pullWord_sp (s : State) : (s.pullWord.2).sp = s.sp + 2#8 := by simp [State.pullWord_eq]
@[simp] theorem State.pullWord_pc (s : State) : (s.pullWord.2).pc = s.pc := by simp [State.pullWord_eq]
@[simp] theorem State.pullWord_fN (s : State) : (s.pullWord.2).fN = s.fN := by simp [State.pullWord_eq]
@[simp] theorem State.pullWord_fV (s : State) : (s.pullWord.2).fV = s.fV := by simp [State.pullWord_eq]
@[simp] theorem State.pullWord_fD (s : State) : (s.pullWord.2).fD = s.fD := by simp [State.pullWord_eq]
@[simp] theorem State.pullWord_fI (s : State) : (s.pullWord.2).fI = s.fI := by simp [State.pullWord_eq]
@[simp] theorem State.pullWord_fZ (s : State) : (s.pullWord.2).fZ = s.fZ := by simp [State.pullWord_eq]
@[simp] theorem State.pullWord_fC (s : State) : (s.pullWord.2).fC = s.fC := by simp [State.pullWord_eq]
@[simp] theorem State.pullWord_iBefore (s : State) : (s.pullWord.2).iBefore = s.iBefore :=
  by simp [State.pullWord_eq]
@[simp] theorem State.pullWord_nmiPending (s : State) : (s.pullWord.2).nmiPending = s.nmiPending :=
  by simp [State.pullWord_eq]
@[simp] theorem State.pullWord_irqLine (s : State) : (s.pullWord.2).irqLine = s.irqLine :=
  by simp [State.pullWord_eq]
@[simp] theorem State.pullWord_resetReq (s : State) : (s.pullWord.2).resetReq = s.resetReq :=
  by simp [State.pullWord_eq]
@[simp] theorem State.pullWord_inputs (s : State) : (s.pullWord.2).inputs = s.inputs :=
  by simp [State.pullWord_eq]
@[simp] theorem State.pullWord_mem (s : State) : (s.pullWord.2).mem = s.mem := by simp [State.pullWord_eq]
@[simp] theorem State.pullWord_regions (s : State) : (s.pullWord.2).regions = s.regions :=
  by simp [State.pullWord_eq]
@[simp] theorem State.pullWord_vecNmi (s : State) : (s.pullWord.2).vecNmi = s.vecNmi :=
  by simp [State.pullWord_eq]
@[simp] theorem State.pullWord_vecReset (s : State) : (s.pullWord.2).vecReset = s.vecReset :=
  by simp [State.pullWord_eq]
@[simp] theorem State.pullWord_vecIrq (s : State) : (s.pullWord.2).vecIrq = s.vecIrq :=
  by simp [State.pullWord_eq]
@[simp] theorem State.pullWord_devLog (s : State) : (s.pullWord.2).devLog = s.devLog :=
  by simp [State.pullWord_eq]
@[simp] theorem State.pullWord_draws (s : State) : (s.pullWord.2).draws = s.draws := by simp [State.pullWord_eq]

/-! `State.readWord`. -/

@[simp] theorem State.readWord_a (s : State) (w : Word) : ((s.readWord w).2).a = s.a := by simp [State.readWord]
@[simp] theorem State.readWord_x (s : State) (w : Word) : ((s.readWord w).2).x = s.x := by simp [State.readWord]
@[simp] theorem State.readWord_y (s : State) (w : Word) : ((s.readWord w).2).y = s.y := by simp [State.readWord]
@[simp] theorem State.readWord_sp (s : State) (w : Word) : ((s.readWord w).2).sp = s.sp :=
  by simp [State.readWord]
@[simp] theorem State.readWord_pc (s : State) (w : Word) : ((s.readWord w).2).pc = s.pc :=
  by simp [State.readWord]
@[simp] theorem State.readWord_fN (s : State) (w : Word) : ((s.readWord w).2).fN = s.fN :=
  by simp [State.readWord]
@[simp] theorem State.readWord_fV (s : State) (w : Word) : ((s.readWord w).2).fV = s.fV :=
  by simp [State.readWord]
@[simp] theorem State.readWord_fD (s : State) (w : Word) : ((s.readWord w).2).fD = s.fD :=
  by simp [State.readWord]
@[simp] theorem State.readWord_fI (s : State) (w : Word) : ((s.readWord w).2).fI = s.fI :=
  by simp [State.readWord]
@[simp] theorem State.readWord_fZ (s : State) (w : Word) : ((s.readWord w).2).fZ = s.fZ :=
  by simp [State.readWord]
@[simp] theorem State.readWord_fC (s : State) (w : Word) : ((s.readWord w).2).fC = s.fC :=
  by simp [State.readWord]
@[simp] theorem State.readWord_iBefore (s : State) (w : Word) : ((s.readWord w).2).iBefore = s.iBefore :=
  by simp [State.readWord]
@[simp] theorem State.readWord_nmiPending (s : State) (w : Word) : ((s.readWord w).2).nmiPending = s.nmiPending :=
  by simp [State.readWord]
@[simp] theorem State.readWord_irqLine (s : State) (w : Word) : ((s.readWord w).2).irqLine = s.irqLine :=
  by simp [State.readWord]
@[simp] theorem State.readWord_resetReq (s : State) (w : Word) : ((s.readWord w).2).resetReq = s.resetReq :=
  by simp [State.readWord]
@[simp] theorem State.readWord_inputs (s : State) (w : Word) : ((s.readWord w).2).inputs = s.inputs :=
  by simp [State.readWord]
@[simp] theorem State.readWord_mem (s : State) (w : Word) : ((s.readWord w).2).mem = s.mem :=
  by simp [State.readWord]
@[simp] theorem State.readWord_regions (s : State) (w : Word) : ((s.readWord w).2).regions = s.regions :=
  by simp [State.readWord]
@[simp] theorem State.readWord_vecNmi (s : State) (w : Word) : ((s.readWord w).2).vecNmi = s.vecNmi :=
  by simp [State.readWord]
@[simp] theorem State.readWord_vecReset (s : State) (w : Word) : ((s.readWord w).2).vecReset = s.vecReset :=
  by simp [State.readWord]
@[simp] theorem State.readWord_vecIrq (s : State) (w : Word) : ((s.readWord w).2).vecIrq = s.vecIrq :=
  by simp [State.readWord]

/-! ADC and SBC leave everything but A, N, V, Z, C and the count of draws. -/

@[simp] theorem State.adc_x (s : State) (m : Byte) : (State.adc m s).x = s.x :=
  by
  simp only [State.adc, State.setDecimal]; split <;> (try split) <;> rfl
@[simp] theorem State.adc_y (s : State) (m : Byte) : (State.adc m s).y = s.y :=
  by
  simp only [State.adc, State.setDecimal]; split <;> (try split) <;> rfl
@[simp] theorem State.adc_sp (s : State) (m : Byte) : (State.adc m s).sp = s.sp :=
  by
  simp only [State.adc, State.setDecimal]; split <;> (try split) <;> rfl
@[simp] theorem State.adc_pc (s : State) (m : Byte) : (State.adc m s).pc = s.pc :=
  by
  simp only [State.adc, State.setDecimal]; split <;> (try split) <;> rfl
@[simp] theorem State.adc_fD (s : State) (m : Byte) : (State.adc m s).fD = s.fD :=
  by
  simp only [State.adc, State.setDecimal]; split <;> (try split) <;> rfl
@[simp] theorem State.adc_fI (s : State) (m : Byte) : (State.adc m s).fI = s.fI :=
  by
  simp only [State.adc, State.setDecimal]; split <;> (try split) <;> rfl
@[simp] theorem State.adc_iBefore (s : State) (m : Byte) : (State.adc m s).iBefore = s.iBefore :=
  by
  simp only [State.adc, State.setDecimal]; split <;> (try split) <;> rfl
@[simp] theorem State.adc_nmiPending (s : State) (m : Byte) : (State.adc m s).nmiPending = s.nmiPending :=
  by
  simp only [State.adc, State.setDecimal]; split <;> (try split) <;> rfl
@[simp] theorem State.adc_irqLine (s : State) (m : Byte) : (State.adc m s).irqLine = s.irqLine :=
  by
  simp only [State.adc, State.setDecimal]; split <;> (try split) <;> rfl
@[simp] theorem State.adc_resetReq (s : State) (m : Byte) : (State.adc m s).resetReq = s.resetReq :=
  by
  simp only [State.adc, State.setDecimal]; split <;> (try split) <;> rfl
@[simp] theorem State.adc_inputs (s : State) (m : Byte) : (State.adc m s).inputs = s.inputs :=
  by
  simp only [State.adc, State.setDecimal]; split <;> (try split) <;> rfl
@[simp] theorem State.adc_mem (s : State) (m : Byte) : (State.adc m s).mem = s.mem :=
  by
  simp only [State.adc, State.setDecimal]; split <;> (try split) <;> rfl
@[simp] theorem State.adc_regions (s : State) (m : Byte) : (State.adc m s).regions = s.regions :=
  by
  simp only [State.adc, State.setDecimal]; split <;> (try split) <;> rfl
@[simp] theorem State.adc_vecNmi (s : State) (m : Byte) : (State.adc m s).vecNmi = s.vecNmi :=
  by
  simp only [State.adc, State.setDecimal]; split <;> (try split) <;> rfl
@[simp] theorem State.adc_vecReset (s : State) (m : Byte) : (State.adc m s).vecReset = s.vecReset :=
  by
  simp only [State.adc, State.setDecimal]; split <;> (try split) <;> rfl
@[simp] theorem State.adc_vecIrq (s : State) (m : Byte) : (State.adc m s).vecIrq = s.vecIrq :=
  by
  simp only [State.adc, State.setDecimal]; split <;> (try split) <;> rfl
@[simp] theorem State.adc_devLog (s : State) (m : Byte) : (State.adc m s).devLog = s.devLog :=
  by
  simp only [State.adc, State.setDecimal]; split <;> (try split) <;> rfl

@[simp] theorem State.sbc_x (s : State) (m : Byte) : (State.sbc m s).x = s.x :=
  by
  simp only [State.sbc, State.setDecimal]; split <;> (try split) <;> rfl
@[simp] theorem State.sbc_y (s : State) (m : Byte) : (State.sbc m s).y = s.y :=
  by
  simp only [State.sbc, State.setDecimal]; split <;> (try split) <;> rfl
@[simp] theorem State.sbc_sp (s : State) (m : Byte) : (State.sbc m s).sp = s.sp :=
  by
  simp only [State.sbc, State.setDecimal]; split <;> (try split) <;> rfl
@[simp] theorem State.sbc_pc (s : State) (m : Byte) : (State.sbc m s).pc = s.pc :=
  by
  simp only [State.sbc, State.setDecimal]; split <;> (try split) <;> rfl
@[simp] theorem State.sbc_fD (s : State) (m : Byte) : (State.sbc m s).fD = s.fD :=
  by
  simp only [State.sbc, State.setDecimal]; split <;> (try split) <;> rfl
@[simp] theorem State.sbc_fI (s : State) (m : Byte) : (State.sbc m s).fI = s.fI :=
  by
  simp only [State.sbc, State.setDecimal]; split <;> (try split) <;> rfl
@[simp] theorem State.sbc_iBefore (s : State) (m : Byte) : (State.sbc m s).iBefore = s.iBefore :=
  by
  simp only [State.sbc, State.setDecimal]; split <;> (try split) <;> rfl
@[simp] theorem State.sbc_nmiPending (s : State) (m : Byte) : (State.sbc m s).nmiPending = s.nmiPending :=
  by
  simp only [State.sbc, State.setDecimal]; split <;> (try split) <;> rfl
@[simp] theorem State.sbc_irqLine (s : State) (m : Byte) : (State.sbc m s).irqLine = s.irqLine :=
  by
  simp only [State.sbc, State.setDecimal]; split <;> (try split) <;> rfl
@[simp] theorem State.sbc_resetReq (s : State) (m : Byte) : (State.sbc m s).resetReq = s.resetReq :=
  by
  simp only [State.sbc, State.setDecimal]; split <;> (try split) <;> rfl
@[simp] theorem State.sbc_inputs (s : State) (m : Byte) : (State.sbc m s).inputs = s.inputs :=
  by
  simp only [State.sbc, State.setDecimal]; split <;> (try split) <;> rfl
@[simp] theorem State.sbc_mem (s : State) (m : Byte) : (State.sbc m s).mem = s.mem :=
  by
  simp only [State.sbc, State.setDecimal]; split <;> (try split) <;> rfl
@[simp] theorem State.sbc_regions (s : State) (m : Byte) : (State.sbc m s).regions = s.regions :=
  by
  simp only [State.sbc, State.setDecimal]; split <;> (try split) <;> rfl
@[simp] theorem State.sbc_vecNmi (s : State) (m : Byte) : (State.sbc m s).vecNmi = s.vecNmi :=
  by
  simp only [State.sbc, State.setDecimal]; split <;> (try split) <;> rfl
@[simp] theorem State.sbc_vecReset (s : State) (m : Byte) : (State.sbc m s).vecReset = s.vecReset :=
  by
  simp only [State.sbc, State.setDecimal]; split <;> (try split) <;> rfl
@[simp] theorem State.sbc_vecIrq (s : State) (m : Byte) : (State.sbc m s).vecIrq = s.vecIrq :=
  by
  simp only [State.sbc, State.setDecimal]; split <;> (try split) <;> rfl
@[simp] theorem State.sbc_devLog (s : State) (m : Byte) : (State.sbc m s).devLog = s.devLog :=
  by
  simp only [State.sbc, State.setDecimal]; split <;> (try split) <;> rfl

/-! `State.enter`, the shared entry (R225). -/

@[simp] theorem State.enter_a (s : State) (ret vec : Word) (brk : Bool) : (s.enter ret vec brk).a = s.a :=
  by simp [State.enter]
@[simp] theorem State.enter_x (s : State) (ret vec : Word) (brk : Bool) : (s.enter ret vec brk).x = s.x :=
  by simp [State.enter]
@[simp] theorem State.enter_y (s : State) (ret vec : Word) (brk : Bool) : (s.enter ret vec brk).y = s.y :=
  by simp [State.enter]
@[simp] theorem State.enter_sp (s : State) (ret vec : Word) (brk : Bool) : (s.enter ret vec brk).sp = s.sp - 3#8 :=
  by simp [State.enter]
@[simp] theorem State.enter_fN (s : State) (ret vec : Word) (brk : Bool) : (s.enter ret vec brk).fN = s.fN :=
  by simp [State.enter]
@[simp] theorem State.enter_fV (s : State) (ret vec : Word) (brk : Bool) : (s.enter ret vec brk).fV = s.fV :=
  by simp [State.enter]
@[simp] theorem State.enter_fD (s : State) (ret vec : Word) (brk : Bool) : (s.enter ret vec brk).fD = s.fD :=
  by simp [State.enter]
@[simp] theorem State.enter_fI (s : State) (ret vec : Word) (brk : Bool) : (s.enter ret vec brk).fI = true :=
  by simp [State.enter]
@[simp] theorem State.enter_fZ (s : State) (ret vec : Word) (brk : Bool) : (s.enter ret vec brk).fZ = s.fZ :=
  by simp [State.enter]
@[simp] theorem State.enter_fC (s : State) (ret vec : Word) (brk : Bool) : (s.enter ret vec brk).fC = s.fC :=
  by simp [State.enter]
@[simp] theorem State.enter_iBefore (s : State) (ret vec : Word) (brk : Bool) : (s.enter ret vec brk).iBefore = true :=
  by simp [State.enter]
@[simp] theorem State.enter_nmiPending (s : State) (ret vec : Word) (brk : Bool) : (s.enter ret vec brk).nmiPending = s.nmiPending :=
  by simp [State.enter]
@[simp] theorem State.enter_irqLine (s : State) (ret vec : Word) (brk : Bool) : (s.enter ret vec brk).irqLine = s.irqLine :=
  by simp [State.enter]
@[simp] theorem State.enter_resetReq (s : State) (ret vec : Word) (brk : Bool) : (s.enter ret vec brk).resetReq = s.resetReq :=
  by simp [State.enter]
@[simp] theorem State.enter_inputs (s : State) (ret vec : Word) (brk : Bool) : (s.enter ret vec brk).inputs = s.inputs :=
  by simp [State.enter]
@[simp] theorem State.enter_mem (s : State) (ret vec : Word) (brk : Bool) : (s.enter ret vec brk).mem = ((s.mem.write (stackAddr s.sp) (hi ret)).write (stackAddr (s.sp - 1#8)) (lo ret)).write (stackAddr (s.sp - 2#8)) (s.statusByte brk) :=
  by simp [State.enter]
@[simp] theorem State.enter_regions (s : State) (ret vec : Word) (brk : Bool) : (s.enter ret vec brk).regions = s.regions :=
  by simp [State.enter]
@[simp] theorem State.enter_vecNmi (s : State) (ret vec : Word) (brk : Bool) : (s.enter ret vec brk).vecNmi = s.vecNmi :=
  by simp [State.enter]
@[simp] theorem State.enter_vecReset (s : State) (ret vec : Word) (brk : Bool) : (s.enter ret vec brk).vecReset = s.vecReset :=
  by simp [State.enter]
@[simp] theorem State.enter_vecIrq (s : State) (ret vec : Word) (brk : Bool) : (s.enter ret vec brk).vecIrq = s.vecIrq :=
  by simp [State.enter]

/-! `State.sample`. -/

@[simp] theorem State.sample_a (s : State) : (s.sample).a = s.a := by
  simp only [State.sample]; split <;> rfl
@[simp] theorem State.sample_x (s : State) : (s.sample).x = s.x := by
  simp only [State.sample]; split <;> rfl
@[simp] theorem State.sample_y (s : State) : (s.sample).y = s.y := by
  simp only [State.sample]; split <;> rfl
@[simp] theorem State.sample_sp (s : State) : (s.sample).sp = s.sp :=
  by
  simp only [State.sample]; split <;> rfl
@[simp] theorem State.sample_pc (s : State) : (s.sample).pc = s.pc :=
  by
  simp only [State.sample]; split <;> rfl
@[simp] theorem State.sample_fN (s : State) : (s.sample).fN = s.fN :=
  by
  simp only [State.sample]; split <;> rfl
@[simp] theorem State.sample_fV (s : State) : (s.sample).fV = s.fV :=
  by
  simp only [State.sample]; split <;> rfl
@[simp] theorem State.sample_fD (s : State) : (s.sample).fD = s.fD :=
  by
  simp only [State.sample]; split <;> rfl
@[simp] theorem State.sample_fI (s : State) : (s.sample).fI = s.fI :=
  by
  simp only [State.sample]; split <;> rfl
@[simp] theorem State.sample_fZ (s : State) : (s.sample).fZ = s.fZ :=
  by
  simp only [State.sample]; split <;> rfl
@[simp] theorem State.sample_fC (s : State) : (s.sample).fC = s.fC :=
  by
  simp only [State.sample]; split <;> rfl
@[simp] theorem State.sample_iBefore (s : State) : (s.sample).iBefore = s.iBefore :=
  by
  simp only [State.sample]; split <;> rfl
@[simp] theorem State.sample_mem (s : State) : (s.sample).mem = s.mem :=
  by
  simp only [State.sample]; split <;> rfl
@[simp] theorem State.sample_regions (s : State) : (s.sample).regions = s.regions :=
  by
  simp only [State.sample]; split <;> rfl
@[simp] theorem State.sample_vecNmi (s : State) : (s.sample).vecNmi = s.vecNmi :=
  by
  simp only [State.sample]; split <;> rfl
@[simp] theorem State.sample_vecReset (s : State) : (s.sample).vecReset = s.vecReset :=
  by
  simp only [State.sample]; split <;> rfl
@[simp] theorem State.sample_vecIrq (s : State) : (s.sample).vecIrq = s.vecIrq :=
  by
  simp only [State.sample]; split <;> rfl
@[simp] theorem State.sample_devLog (s : State) : (s.sample).devLog = s.devLog :=
  by
  simp only [State.sample]; split <;> rfl
@[simp] theorem State.sample_draws (s : State) : (s.sample).draws = s.draws :=
  by
  simp only [State.sample]; split <;> rfl

/-! `State.recognise` takes at most one draw. -/

@[simp] theorem State.recognise_a (s : State) : (s.recognise.2).a = s.a :=
  by
  simp only [State.recognise]; repeat (first | rfl | split)
@[simp] theorem State.recognise_x (s : State) : (s.recognise.2).x = s.x :=
  by
  simp only [State.recognise]; repeat (first | rfl | split)
@[simp] theorem State.recognise_y (s : State) : (s.recognise.2).y = s.y :=
  by
  simp only [State.recognise]; repeat (first | rfl | split)
@[simp] theorem State.recognise_sp (s : State) : (s.recognise.2).sp = s.sp :=
  by
  simp only [State.recognise]; repeat (first | rfl | split)
@[simp] theorem State.recognise_pc (s : State) : (s.recognise.2).pc = s.pc :=
  by
  simp only [State.recognise]; repeat (first | rfl | split)
@[simp] theorem State.recognise_fN (s : State) : (s.recognise.2).fN = s.fN :=
  by
  simp only [State.recognise]; repeat (first | rfl | split)
@[simp] theorem State.recognise_fV (s : State) : (s.recognise.2).fV = s.fV :=
  by
  simp only [State.recognise]; repeat (first | rfl | split)
@[simp] theorem State.recognise_fD (s : State) : (s.recognise.2).fD = s.fD :=
  by
  simp only [State.recognise]; repeat (first | rfl | split)
@[simp] theorem State.recognise_fI (s : State) : (s.recognise.2).fI = s.fI :=
  by
  simp only [State.recognise]; repeat (first | rfl | split)
@[simp] theorem State.recognise_fZ (s : State) : (s.recognise.2).fZ = s.fZ :=
  by
  simp only [State.recognise]; repeat (first | rfl | split)
@[simp] theorem State.recognise_fC (s : State) : (s.recognise.2).fC = s.fC :=
  by
  simp only [State.recognise]; repeat (first | rfl | split)
@[simp] theorem State.recognise_iBefore (s : State) : (s.recognise.2).iBefore = s.iBefore :=
  by
  simp only [State.recognise]; repeat (first | rfl | split)
@[simp] theorem State.recognise_nmiPending (s : State) : (s.recognise.2).nmiPending = s.nmiPending :=
  by
  simp only [State.recognise]; repeat (first | rfl | split)
@[simp] theorem State.recognise_irqLine (s : State) : (s.recognise.2).irqLine = s.irqLine :=
  by
  simp only [State.recognise]; repeat (first | rfl | split)
@[simp] theorem State.recognise_resetReq (s : State) : (s.recognise.2).resetReq = s.resetReq :=
  by
  simp only [State.recognise]; repeat (first | rfl | split)
@[simp] theorem State.recognise_inputs (s : State) : (s.recognise.2).inputs = s.inputs :=
  by
  simp only [State.recognise]; repeat (first | rfl | split)
@[simp] theorem State.recognise_mem (s : State) : (s.recognise.2).mem = s.mem :=
  by
  simp only [State.recognise]; repeat (first | rfl | split)
@[simp] theorem State.recognise_regions (s : State) : (s.recognise.2).regions = s.regions :=
  by
  simp only [State.recognise]; repeat (first | rfl | split)
@[simp] theorem State.recognise_vecNmi (s : State) : (s.recognise.2).vecNmi = s.vecNmi :=
  by
  simp only [State.recognise]; repeat (first | rfl | split)
@[simp] theorem State.recognise_vecReset (s : State) : (s.recognise.2).vecReset = s.vecReset :=
  by
  simp only [State.recognise]; repeat (first | rfl | split)
@[simp] theorem State.recognise_vecIrq (s : State) : (s.recognise.2).vecIrq = s.vecIrq :=
  by
  simp only [State.recognise]; repeat (first | rfl | split)
@[simp] theorem State.recognise_devLog (s : State) : (s.recognise.2).devLog = s.devLog :=
  by
  simp only [State.recognise]; repeat (first | rfl | split)

/-! The state after reset (R40). -/

/-- PC is the word at `VEC_RESET` (R40). -/
theorem State.reset_pc : State.reset.pc = (State.reset.readWord State.reset.vecReset).1 := by decide

/-- Memory after reset is in its canonical form. -/
theorem State.reset_mem_wf : State.reset.mem.wf = true := by decide

end Sys2Proof.Machine
end

