-- ==== Sys2Proof/Laws/Ops.lean ====
section
/-! SUPPORT. One lemma per shared operation that says once everything it can do; proofs about instructions cite
these instead of unfolding the operations. -/

namespace Sys2Proof.Machine

/-! ### Accesses (R57) -/

theorem State.kindOf_advance (s : State) (n : Nat) (a : Word) : (s.advance n).kindOf a = s.kindOf a := rfl

/-- A read of RAM or ROM is the byte memory holds, and nothing else. -/
theorem State.readByte_backed {s : State} {a : Word} (h : s.kindOf a = .ram ∨ s.kindOf a = .rom) :
    s.readByte a = (s.mem.read a, s) := by
  rcases h with h | h <;> simp [State.readByte, h]

/-- A read of an I/O region is a free byte that the device's log records. -/
theorem State.readByte_io {s : State} {a : Word} (h : s.kindOf a = .io ∨ s.kindOf a = .ioHarmless) :
    s.readByte a = (Config.freeByte s.draws,
      { s with draws := s.draws + 1, devLog := .read a (Config.freeByte s.draws) :: s.devLog }) := by
  rcases h with h | h <;> simp [State.readByte, h, State.drawByte]

/-- A read of an unmapped address is a free byte. -/
theorem State.readByte_unmapped {s : State} {a : Word} (h : s.kindOf a = .unmapped) :
    s.readByte a = (Config.freeByte s.draws, { s with draws := s.draws + 1 }) := by
  simp [State.readByte, h, State.drawByte]

/-- A read is a free byte or the byte held; the state differs in the draws and the devices' log alone. -/
theorem State.readByte_snd (s : State) (a : Word) :
    (s.readByte a).2 = { s with draws := (s.readByte a).2.draws, devLog := (s.readByte a).2.devLog } := by
  simp only [State.readByte]; split <;> rfl

/-- Moving past the instruction and reading a byte do not meet. -/
theorem State.readByte_advance (s : State) (n : Nat) (a : Word) :
    (s.advance n).readByte a = ((s.readByte a).1, (s.readByte a).2.advance n) := by
  simp only [State.readByte, State.kindOf_advance]; split <;> rfl

/-- A write, by the kind of the address. -/
theorem State.writeByte_ram {s : State} {a : Word} (b : Byte) (h : s.kindOf a = .ram) :
    s.writeByte a b = { s with mem := s.mem.write a b } := by simp [State.writeByte, h]

theorem State.writeByte_rom {s : State} {a : Word} (b : Byte) (h : s.kindOf a = .rom) :
    s.writeByte a b = s := by simp [State.writeByte, h]

theorem State.writeByte_io {s : State} {a : Word} (b : Byte) (h : s.kindOf a = .io ∨ s.kindOf a = .ioHarmless) :
    s.writeByte a b = { s with devLog := .write a b :: s.devLog } := by
  rcases h with h | h <;> simp [State.writeByte, h]

theorem State.writeByte_unmapped {s : State} {a : Word} (b : Byte) (h : s.kindOf a = .unmapped) :
    s.writeByte a b = s := by simp [State.writeByte, h]

/-- A write changes memory and the devices' log alone. -/
theorem State.writeByte_eq (s : State) (a : Word) (b : Byte) :
    s.writeByte a b = { s with mem := (s.writeByte a b).mem, devLog := (s.writeByte a b).devLog } := by
  simp only [State.writeByte]; split <;> rfl

/-- Every address but the one written reads as before. -/
theorem State.writeByte_mem_read_of_ne (s : State) {a a' : Word} (b : Byte) (h : a' ≠ a) :
    (s.writeByte a b).mem.read a' = s.mem.read a' := by
  simp only [State.writeByte]; split <;> simp [Memory.read_write_of_ne, h]

/-- What an address that is not RAM holds, no write changes. -/
theorem State.writeByte_mem_read_of_not_ram (s : State) (a : Word) (b : Byte) {a' : Word}
    (h : s.kindOf a' ≠ .ram) : (s.writeByte a b).mem.read a' = s.mem.read a' := by
  by_cases ha : a' = a
  · subst ha
    simp only [State.writeByte]; split <;> simp_all
  · exact s.writeByte_mem_read_of_ne b ha

/-- A write keeps memory canonical. -/
theorem State.writeByte_mem_wf {s : State} (a : Word) (b : Byte) (h : s.mem.wf = true) :
    (s.writeByte a b).mem.wf = true := by
  simp only [State.writeByte]; split <;> simp [Memory.wf_write, h]

/-! ### The operations on A, X and Y (R134 to R136, R140 to R143) -/

@[simp] theorem State.cmpA_eq (m : Byte) (s : State) : State.cmpA m s = s.compare s.a m := rfl
@[simp] theorem State.cmpX_eq (m : Byte) (s : State) : State.cmpX m s = s.compare s.x m := rfl
@[simp] theorem State.cmpY_eq (m : Byte) (s : State) : State.cmpY m s = s.compare s.y m := rfl
@[simp] theorem State.andA_eq (m : Byte) (s : State) : State.andA m s = s.loadA (s.a &&& m) := rfl
@[simp] theorem State.eorA_eq (m : Byte) (s : State) : State.eorA m s = s.loadA (s.a ^^^ m) := rfl
@[simp] theorem State.oraA_eq (m : Byte) (s : State) : State.oraA m s = s.loadA (s.a ||| m) := rfl

/-! ### The shapes of a meaning (R120, R154, R170) -/

/-- A form in page 0 meets no device (R58). -/
@[simp] theorem MemForm.hitsDevice_zp (b : Byte) (s : State) : (MemForm.zp b).hitsDevice s = false := by
  simp [MemForm.hitsDevice, MemForm.uncarried, MemForm.base, MemForm.ea]

@[simp] theorem MemForm.hitsDevice_zpx (b : Byte) (s : State) : (MemForm.zpx b).hitsDevice s = false := by
  simp [MemForm.hitsDevice, MemForm.uncarried, MemForm.base, MemForm.ea]

@[simp] theorem MemForm.hitsDevice_zpy (b : Byte) (s : State) : (MemForm.zpy b).hitsDevice s = false := by
  simp [MemForm.hitsDevice, MemForm.uncarried, MemForm.base, MemForm.ea]

/-- A read or write in a plain form or in page 0 is never refused (R69). -/
@[simp] theorem MemForm.refuses_zp (b : Byte) (s : State) : (MemForm.zp b).refuses s = false := rfl

@[simp] theorem MemForm.refuses_abs (w : Word) (s : State) : (MemForm.abs w).refuses s = false := rfl

@[simp] theorem MemForm.refuses_zpx (b : Byte) (s : State) : (MemForm.zpx b).refuses s = false := by
  simp [MemForm.refuses]

@[simp] theorem MemForm.refuses_zpy (b : Byte) (s : State) : (MemForm.zpy b).refuses s = false := by
  simp [MemForm.refuses]

/-- What an instruction that reads memory does where it is not refused. -/
theorem readOp_eq (k : Byte → State → State) {f : MemForm} {s : State} (h : f.refuses s = false) :
    readOp k f s = .next (k (s.readByte (f.ea s)).1 ((s.readByte (f.ea s)).2.advance f.length)) := by
  simp [readOp, State.readByte_advance, h]

/-- What an instruction that reads memory can do. -/
theorem readOp_next {k : Byte → State → State} {f : MemForm} {s t : State} :
    readOp k f s = .next t ↔
      f.refuses s = false ∧ t = k (s.readByte (f.ea s)).1 ((s.readByte (f.ea s)).2.advance f.length) := by
  cases h : f.refuses s <;> simp [readOp, State.readByte_advance, h, eq_comm]

/-- What an immediate instruction can do. -/
theorem immOp_next {k : Byte → State → State} {v : Byte} {s t : State} :
    immOp k v s = .next t ↔ t = k v (s.advance 2) := by simp [immOp, eq_comm]

/-- What a store can do. -/
theorem storeOp_next {v : State → Byte} {f : MemForm} {s t : State} :
    storeOp v f s = .next t ↔
      f.refuses s = false ∧ t = (s.advance f.length).writeByte (f.ea s) (v s) := by
  cases h : f.refuses s <;> simp [storeOp, h, eq_comm]

/-- What a store does where it is not refused. -/
theorem storeOp_eq (v : State → Byte) {f : MemForm} {s : State} (h : f.refuses s = false) :
    storeOp v f s = .next { s.writeByte (f.ea s) (v s) with
      pc := s.pc + BitVec.ofNat 16 f.length, iBefore := s.fI } := by
  simp only [storeOp, h, State.writeByte, State.kindOf_advance, Bool.false_eq_true, if_false]
  congr 1
  split <;> rfl

/-- What a read-modify-write can do. -/
theorem modifyOp_next {α : Type} {g : State → Byte → α} {byte : α → Byte} {k : State → α → State}
    {f : MemForm} {s t : State} :
    modifyOp g byte k f s = .next t ↔
      f.hitsDevice s = false ∧
        t = k (((s.readByte (f.ea s)).2.advance f.length).writeByte (f.ea s) (byte (g s (s.readByte (f.ea s)).1)))
          (g s (s.readByte (f.ea s)).1) := by
  cases h : f.hitsDevice s <;> simp [modifyOp, State.readByte_advance, h, eq_comm]

/-- What a shift or rotate of memory can do. -/
theorem shiftMem_next {g : Bool → Byte → ShiftOut} {f : MemForm} {s t : State} :
    shiftMem g f s = .next t ↔
      f.hitsDevice s = false ∧
        t = (((s.readByte (f.ea s)).2.advance f.length).writeByte (f.ea s)
          (g s.fC (s.readByte (f.ea s)).1).result).setShift (g s.fC (s.readByte (f.ea s)).1) := modifyOp_next

/-- What an increment or decrement of memory can do. -/
theorem stepMem_next {d : Byte} {f : MemForm} {s t : State} :
    stepMem d f s = .next t ↔
      f.hitsDevice s = false ∧
        t = (((s.readByte (f.ea s)).2.advance f.length).writeByte (f.ea s)
          ((s.readByte (f.ea s)).1 + d)).setNZ ((s.readByte (f.ea s)).1 + d) := modifyOp_next

/-- What a shift or rotate of A can do. -/
theorem shiftAcc_next {g : Bool → Byte → ShiftOut} {s t : State} :
    shiftAcc g s = .next t ↔
      t = ({ s.advance 1 with a := (g s.fC s.a).result } : State).setShift (g s.fC s.a) := by
  simp [shiftAcc, eq_comm]

/-- What an implied instruction can do. -/
theorem impliedOp_next {k : State → State} {s t : State} :
    impliedOp k s = .next t ↔ t = k (s.advance 1) := by simp [impliedOp, eq_comm]

/-- What a taken branch does where it is not refused (R170). -/
theorem branchOp_taken {cond : State → Bool} {disp : Byte} {s : State} (h : cond s = true)
    (hd : s.branchHitsDevice disp = false) :
    branchOp cond disp s = .next ((s.advance 2).jump (branchTarget s.pc disp)) := by simp [branchOp, h, hd]

/-- What a branch that is not taken does (R170). -/
theorem branchOp_not_taken {cond : State → Bool} {disp : Byte} {s : State} (h : cond s = false) :
    branchOp cond disp s = .next (s.advance 2) := by simp [branchOp, h]

/-- What a conditional branch can do (R170). -/
theorem branchOp_next {cond : State → Bool} {disp : Byte} {s t : State} :
    branchOp cond disp s = .next t ↔
      (cond s = true ∧ s.branchHitsDevice disp = false ∧ t = (s.advance 2).jump (branchTarget s.pc disp)) ∨
        (cond s = false ∧ t = s.advance 2) := by
  cases h : cond s <;> cases hd : s.branchHitsDevice disp <;> simp [branchOp, h, hd, eq_comm]

/-- When a conditional branch is refused (R69). -/
theorem branchOp_refused {cond : State → Bool} {disp : Byte} {s : State} {r : Refusal} :
    branchOp cond disp s = .refused r ↔
      cond s = true ∧ s.branchHitsDevice disp = true ∧ r = .deviceExtraAccess (branchUncarried s.pc disp) := by
  cases h : cond s <;> cases hd : s.branchHitsDevice disp <;> simp [branchOp, h, hd, eq_comm]

/-- A branch within the page of the next instruction is never refused (R69). -/
theorem State.branchHitsDevice_of_same_page {s : State} {disp : Byte}
    (h : hi (branchTarget s.pc disp) = hi (s.pc + 2#16)) : s.branchHitsDevice disp = false := by
  simp [State.branchHitsDevice, h]

/-! ### Exceptions (R211, R225) -/

/-- Everything an entry does, but for what the read of the vector draws. -/
theorem State.enter_eq (s : State) (ret vec : Word) (brk : Bool) :
    s.enter ret vec brk =
      let p : State := { s with
        mem := ((s.mem.write (stackAddr s.sp) (hi ret)).write (stackAddr (s.sp - 1#8)) (lo ret)).write
          (stackAddr (s.sp - 2#8)) (s.statusByte brk)
        sp := s.sp - 3#8, fI := true, iBefore := true }
      { (p.readWord vec).2 with pc := (p.readWord vec).1 } := by
  simp [State.enter, State.pushWord_eq, State.push_eq, State.jump]

/-- Everything a return from an exception does. -/
theorem State.returnFromException_eq (s : State) :
    s.returnFromException =
      let p := s.mem.read (stackAddr (s.sp + 1#8))
      { s with
        fN := p.getLsbD 7, fV := p.getLsbD 6, fD := p.getLsbD 3
        fI := p.getLsbD 2, fZ := p.getLsbD 1, fC := p.getLsbD 0, iBefore := p.getLsbD 2
        sp := s.sp + 3#8
        pc := join (s.mem.read (stackAddr (s.sp + 3#8))) (s.mem.read (stackAddr (s.sp + 2#8))) } := by
  simp [State.returnFromException, State.pull_eq, State.pullWord_eq, State.setStatus]

/-- The flags a status byte carries come back from it (R34, R35). -/
theorem State.statusByte_bits (s : State) (brk : Bool) :
    (s.statusByte brk).getLsbD 7 = s.fN ∧ (s.statusByte brk).getLsbD 6 = s.fV ∧
      (s.statusByte brk).getLsbD 5 = true ∧ (s.statusByte brk).getLsbD 4 = brk ∧
      (s.statusByte brk).getLsbD 3 = s.fD ∧ (s.statusByte brk).getLsbD 2 = s.fI ∧
      (s.statusByte brk).getLsbD 1 = s.fZ ∧ (s.statusByte brk).getLsbD 0 = s.fC := by
  simp only [State.statusByte]
  generalize s.fN = n, s.fV = v, s.fD = d, s.fI = i, s.fZ = z, s.fC = c
  revert brk n v d i z c
  decide

/-- The bits of the status byte one by one (R34). -/
@[simp] theorem State.statusByte_bit7 (s : State) (brk : Bool) : (s.statusByte brk)[7] = s.fN :=
  (s.statusByte_bits brk).1

@[simp] theorem State.statusByte_bit6 (s : State) (brk : Bool) : (s.statusByte brk)[6] = s.fV :=
  (s.statusByte_bits brk).2.1

@[simp] theorem State.statusByte_bit5 (s : State) (brk : Bool) : (s.statusByte brk)[5] = true :=
  (s.statusByte_bits brk).2.2.1

@[simp] theorem State.statusByte_bit4 (s : State) (brk : Bool) : (s.statusByte brk)[4] = brk :=
  (s.statusByte_bits brk).2.2.2.1

@[simp] theorem State.statusByte_bit3 (s : State) (brk : Bool) : (s.statusByte brk)[3] = s.fD :=
  (s.statusByte_bits brk).2.2.2.2.1

@[simp] theorem State.statusByte_bit2 (s : State) (brk : Bool) : (s.statusByte brk)[2] = s.fI :=
  (s.statusByte_bits brk).2.2.2.2.2.1

@[simp] theorem State.statusByte_bit1 (s : State) (brk : Bool) : (s.statusByte brk)[1] = s.fZ :=
  (s.statusByte_bits brk).2.2.2.2.2.2.1

@[simp] theorem State.statusByte_bit0 (s : State) (brk : Bool) : (s.statusByte brk)[0] = s.fC :=
  (s.statusByte_bits brk).2.2.2.2.2.2.2

/-! ### The boundary (R224) -/

/-- What recognition answers, case by case. -/
theorem State.recognise_cases (s : State) :
    (s.resetReq = true ∧ s.recognise = (.reset, s)) ∨
    (s.resetReq = false ∧ s.nmiPending = true ∧ s.recognise = (.nmi, s)) ∨
    (s.resetReq = false ∧ s.nmiPending = false ∧ s.irqLine = false ∧ s.recognise = (.instruction, s)) ∨
    (s.resetReq = false ∧ s.nmiPending = false ∧ s.irqLine = true ∧ s.fI = false ∧ s.iBefore = false ∧
      s.recognise = (.irq, s)) ∨
    (s.resetReq = false ∧ s.nmiPending = false ∧ s.irqLine = true ∧ s.fI = true ∧ s.iBefore = true ∧
      s.recognise = (.instruction, s)) ∨
    (s.resetReq = false ∧ s.nmiPending = false ∧ s.irqLine = true ∧ s.fI ≠ s.iBefore ∧
      s.recognise = (if Config.freeBit s.draws then .irq else .instruction, { s with draws := s.draws + 1 })) := by
  simp only [State.recognise, State.drawBit]
  cases hr : s.resetReq <;> cases hn : s.nmiPending <;> cases hq : s.irqLine <;>
    cases hi : s.fI <;> cases hb : s.iBefore <;> simp <;> rfl

/-- The step of a boundary that brings nothing runs the instruction at PC. -/
theorem step_of_instruction {s u : State} (h : s.sample.recognise = (.instruction, u)) :
    step s = runInstruction u := by simp [step, State.boundary, h]

/-- What a step can do: serve a reset, enter an interrupt, or run the instruction at PC. -/
theorem step_cases {s : State} {o : Out} (h : step s = o) :
    ∃ e u, s.sample.recognise = (e, u) ∧
      ((e = .reset ∧ o = .next u.resetEntry) ∨ (e = .nmi ∧ o = .next u.nmiEntry) ∨
        (e = .irq ∧ o = .next u.irqEntry) ∨ (e = .instruction ∧ o = runInstruction u)) := by
  subst h
  cases hr : s.sample.recognise with
  | mk e u => exact ⟨e, u, rfl, by cases e <;> simp [step, State.boundary, hr]⟩

end Sys2Proof.Machine
end

