-- ==== Sys2Proof/Laws/Exec.lean ====
section
/-! SUPPORT. What `exec` is for each constructor, as the shared operation its meaning is made of: proofs about
all instructions rewrite with these and then cite Laws/Ops. -/

namespace Sys2Proof.Machine

@[simp] theorem exec_ldaImm (v : Byte) (s : State) : exec (.ldaImm v) s = immOp State.loadA v s := rfl
@[simp] theorem exec_ldaZp (zp : Byte) (s : State) : exec (.ldaZp zp) s = readOp State.loadA (.zp zp) s := rfl
@[simp] theorem exec_ldaZpx (zp : Byte) (s : State) : exec (.ldaZpx zp) s = readOp State.loadA (.zpx zp) s := rfl
@[simp] theorem exec_ldaAbs (w : Word) (s : State) : exec (.ldaAbs w) s = readOp State.loadA (.abs w) s := rfl
@[simp] theorem exec_ldaAbx (w : Word) (s : State) : exec (.ldaAbx w) s = readOp State.loadA (.abx w) s := rfl
@[simp] theorem exec_ldaAby (w : Word) (s : State) : exec (.ldaAby w) s = readOp State.loadA (.aby w) s := rfl
@[simp] theorem exec_ldaIzx (zp : Byte) (s : State) : exec (.ldaIzx zp) s = readOp State.loadA (.izx zp) s := rfl
@[simp] theorem exec_ldaIzy (zp : Byte) (s : State) : exec (.ldaIzy zp) s = readOp State.loadA (.izy zp) s := rfl
@[simp] theorem exec_ldxImm (v : Byte) (s : State) : exec (.ldxImm v) s = immOp State.loadX v s := rfl
@[simp] theorem exec_ldxZp (zp : Byte) (s : State) : exec (.ldxZp zp) s = readOp State.loadX (.zp zp) s := rfl
@[simp] theorem exec_ldxZpy (zp : Byte) (s : State) : exec (.ldxZpy zp) s = readOp State.loadX (.zpy zp) s := rfl
@[simp] theorem exec_ldxAbs (w : Word) (s : State) : exec (.ldxAbs w) s = readOp State.loadX (.abs w) s := rfl
@[simp] theorem exec_ldxAby (w : Word) (s : State) : exec (.ldxAby w) s = readOp State.loadX (.aby w) s := rfl
@[simp] theorem exec_ldyImm (v : Byte) (s : State) : exec (.ldyImm v) s = immOp State.loadY v s := rfl
@[simp] theorem exec_ldyZp (zp : Byte) (s : State) : exec (.ldyZp zp) s = readOp State.loadY (.zp zp) s := rfl
@[simp] theorem exec_ldyZpx (zp : Byte) (s : State) : exec (.ldyZpx zp) s = readOp State.loadY (.zpx zp) s := rfl
@[simp] theorem exec_ldyAbs (w : Word) (s : State) : exec (.ldyAbs w) s = readOp State.loadY (.abs w) s := rfl
@[simp] theorem exec_ldyAbx (w : Word) (s : State) : exec (.ldyAbx w) s = readOp State.loadY (.abx w) s := rfl
@[simp] theorem exec_staZp (zp : Byte) (s : State) : exec (.staZp zp) s = storeOp State.a (.zp zp) s := rfl
@[simp] theorem exec_staZpx (zp : Byte) (s : State) : exec (.staZpx zp) s = storeOp State.a (.zpx zp) s := rfl
@[simp] theorem exec_staAbs (w : Word) (s : State) : exec (.staAbs w) s = storeOp State.a (.abs w) s := rfl
@[simp] theorem exec_staAbx (w : Word) (s : State) : exec (.staAbx w) s = storeOp State.a (.abx w) s := rfl
@[simp] theorem exec_staAby (w : Word) (s : State) : exec (.staAby w) s = storeOp State.a (.aby w) s := rfl
@[simp] theorem exec_staIzx (zp : Byte) (s : State) : exec (.staIzx zp) s = storeOp State.a (.izx zp) s := rfl
@[simp] theorem exec_staIzy (zp : Byte) (s : State) : exec (.staIzy zp) s = storeOp State.a (.izy zp) s := rfl
@[simp] theorem exec_stxZp (zp : Byte) (s : State) : exec (.stxZp zp) s = storeOp State.x (.zp zp) s := rfl
@[simp] theorem exec_stxZpy (zp : Byte) (s : State) : exec (.stxZpy zp) s = storeOp State.x (.zpy zp) s := rfl
@[simp] theorem exec_stxAbs (w : Word) (s : State) : exec (.stxAbs w) s = storeOp State.x (.abs w) s := rfl
@[simp] theorem exec_styZp (zp : Byte) (s : State) : exec (.styZp zp) s = storeOp State.y (.zp zp) s := rfl
@[simp] theorem exec_styZpx (zp : Byte) (s : State) : exec (.styZpx zp) s = storeOp State.y (.zpx zp) s := rfl
@[simp] theorem exec_styAbs (w : Word) (s : State) : exec (.styAbs w) s = storeOp State.y (.abs w) s := rfl
@[simp] theorem exec_adcImm (v : Byte) (s : State) : exec (.adcImm v) s = immOp State.adc v s := rfl
@[simp] theorem exec_adcZp (zp : Byte) (s : State) : exec (.adcZp zp) s = readOp State.adc (.zp zp) s := rfl
@[simp] theorem exec_adcZpx (zp : Byte) (s : State) : exec (.adcZpx zp) s = readOp State.adc (.zpx zp) s := rfl
@[simp] theorem exec_adcAbs (w : Word) (s : State) : exec (.adcAbs w) s = readOp State.adc (.abs w) s := rfl
@[simp] theorem exec_adcAbx (w : Word) (s : State) : exec (.adcAbx w) s = readOp State.adc (.abx w) s := rfl
@[simp] theorem exec_adcAby (w : Word) (s : State) : exec (.adcAby w) s = readOp State.adc (.aby w) s := rfl
@[simp] theorem exec_adcIzx (zp : Byte) (s : State) : exec (.adcIzx zp) s = readOp State.adc (.izx zp) s := rfl
@[simp] theorem exec_adcIzy (zp : Byte) (s : State) : exec (.adcIzy zp) s = readOp State.adc (.izy zp) s := rfl
@[simp] theorem exec_sbcImm (v : Byte) (s : State) : exec (.sbcImm v) s = immOp State.sbc v s := rfl
@[simp] theorem exec_sbcZp (zp : Byte) (s : State) : exec (.sbcZp zp) s = readOp State.sbc (.zp zp) s := rfl
@[simp] theorem exec_sbcZpx (zp : Byte) (s : State) : exec (.sbcZpx zp) s = readOp State.sbc (.zpx zp) s := rfl
@[simp] theorem exec_sbcAbs (w : Word) (s : State) : exec (.sbcAbs w) s = readOp State.sbc (.abs w) s := rfl
@[simp] theorem exec_sbcAbx (w : Word) (s : State) : exec (.sbcAbx w) s = readOp State.sbc (.abx w) s := rfl
@[simp] theorem exec_sbcAby (w : Word) (s : State) : exec (.sbcAby w) s = readOp State.sbc (.aby w) s := rfl
@[simp] theorem exec_sbcIzx (zp : Byte) (s : State) : exec (.sbcIzx zp) s = readOp State.sbc (.izx zp) s := rfl
@[simp] theorem exec_sbcIzy (zp : Byte) (s : State) : exec (.sbcIzy zp) s = readOp State.sbc (.izy zp) s := rfl
@[simp] theorem exec_cmpImm (v : Byte) (s : State) : exec (.cmpImm v) s = immOp State.cmpA v s := rfl
@[simp] theorem exec_cmpZp (zp : Byte) (s : State) : exec (.cmpZp zp) s = readOp State.cmpA (.zp zp) s := rfl
@[simp] theorem exec_cmpZpx (zp : Byte) (s : State) : exec (.cmpZpx zp) s = readOp State.cmpA (.zpx zp) s := rfl
@[simp] theorem exec_cmpAbs (w : Word) (s : State) : exec (.cmpAbs w) s = readOp State.cmpA (.abs w) s := rfl
@[simp] theorem exec_cmpAbx (w : Word) (s : State) : exec (.cmpAbx w) s = readOp State.cmpA (.abx w) s := rfl
@[simp] theorem exec_cmpAby (w : Word) (s : State) : exec (.cmpAby w) s = readOp State.cmpA (.aby w) s := rfl
@[simp] theorem exec_cmpIzx (zp : Byte) (s : State) : exec (.cmpIzx zp) s = readOp State.cmpA (.izx zp) s := rfl
@[simp] theorem exec_cmpIzy (zp : Byte) (s : State) : exec (.cmpIzy zp) s = readOp State.cmpA (.izy zp) s := rfl
@[simp] theorem exec_cpxImm (v : Byte) (s : State) : exec (.cpxImm v) s = immOp State.cmpX v s := rfl
@[simp] theorem exec_cpxZp (zp : Byte) (s : State) : exec (.cpxZp zp) s = readOp State.cmpX (.zp zp) s := rfl
@[simp] theorem exec_cpxAbs (w : Word) (s : State) : exec (.cpxAbs w) s = readOp State.cmpX (.abs w) s := rfl
@[simp] theorem exec_cpyImm (v : Byte) (s : State) : exec (.cpyImm v) s = immOp State.cmpY v s := rfl
@[simp] theorem exec_cpyZp (zp : Byte) (s : State) : exec (.cpyZp zp) s = readOp State.cmpY (.zp zp) s := rfl
@[simp] theorem exec_cpyAbs (w : Word) (s : State) : exec (.cpyAbs w) s = readOp State.cmpY (.abs w) s := rfl
@[simp] theorem exec_andImm (v : Byte) (s : State) : exec (.andImm v) s = immOp State.andA v s := rfl
@[simp] theorem exec_andZp (zp : Byte) (s : State) : exec (.andZp zp) s = readOp State.andA (.zp zp) s := rfl
@[simp] theorem exec_andZpx (zp : Byte) (s : State) : exec (.andZpx zp) s = readOp State.andA (.zpx zp) s := rfl
@[simp] theorem exec_andAbs (w : Word) (s : State) : exec (.andAbs w) s = readOp State.andA (.abs w) s := rfl
@[simp] theorem exec_andAbx (w : Word) (s : State) : exec (.andAbx w) s = readOp State.andA (.abx w) s := rfl
@[simp] theorem exec_andAby (w : Word) (s : State) : exec (.andAby w) s = readOp State.andA (.aby w) s := rfl
@[simp] theorem exec_andIzx (zp : Byte) (s : State) : exec (.andIzx zp) s = readOp State.andA (.izx zp) s := rfl
@[simp] theorem exec_andIzy (zp : Byte) (s : State) : exec (.andIzy zp) s = readOp State.andA (.izy zp) s := rfl
@[simp] theorem exec_bitZp (zp : Byte) (s : State) : exec (.bitZp zp) s = readOp State.bitTest (.zp zp) s := rfl
@[simp] theorem exec_bitAbs (w : Word) (s : State) : exec (.bitAbs w) s = readOp State.bitTest (.abs w) s := rfl
@[simp] theorem exec_eorImm (v : Byte) (s : State) : exec (.eorImm v) s = immOp State.eorA v s := rfl
@[simp] theorem exec_eorZp (zp : Byte) (s : State) : exec (.eorZp zp) s = readOp State.eorA (.zp zp) s := rfl
@[simp] theorem exec_eorZpx (zp : Byte) (s : State) : exec (.eorZpx zp) s = readOp State.eorA (.zpx zp) s := rfl
@[simp] theorem exec_eorAbs (w : Word) (s : State) : exec (.eorAbs w) s = readOp State.eorA (.abs w) s := rfl
@[simp] theorem exec_eorAbx (w : Word) (s : State) : exec (.eorAbx w) s = readOp State.eorA (.abx w) s := rfl
@[simp] theorem exec_eorAby (w : Word) (s : State) : exec (.eorAby w) s = readOp State.eorA (.aby w) s := rfl
@[simp] theorem exec_eorIzx (zp : Byte) (s : State) : exec (.eorIzx zp) s = readOp State.eorA (.izx zp) s := rfl
@[simp] theorem exec_eorIzy (zp : Byte) (s : State) : exec (.eorIzy zp) s = readOp State.eorA (.izy zp) s := rfl
@[simp] theorem exec_oraImm (v : Byte) (s : State) : exec (.oraImm v) s = immOp State.oraA v s := rfl
@[simp] theorem exec_oraZp (zp : Byte) (s : State) : exec (.oraZp zp) s = readOp State.oraA (.zp zp) s := rfl
@[simp] theorem exec_oraZpx (zp : Byte) (s : State) : exec (.oraZpx zp) s = readOp State.oraA (.zpx zp) s := rfl
@[simp] theorem exec_oraAbs (w : Word) (s : State) : exec (.oraAbs w) s = readOp State.oraA (.abs w) s := rfl
@[simp] theorem exec_oraAbx (w : Word) (s : State) : exec (.oraAbx w) s = readOp State.oraA (.abx w) s := rfl
@[simp] theorem exec_oraAby (w : Word) (s : State) : exec (.oraAby w) s = readOp State.oraA (.aby w) s := rfl
@[simp] theorem exec_oraIzx (zp : Byte) (s : State) : exec (.oraIzx zp) s = readOp State.oraA (.izx zp) s := rfl
@[simp] theorem exec_oraIzy (zp : Byte) (s : State) : exec (.oraIzy zp) s = readOp State.oraA (.izy zp) s := rfl
@[simp] theorem exec_aslZp (zp : Byte) (s : State) : exec (.aslZp zp) s = shiftMem aslByte (.zp zp) s := rfl
@[simp] theorem exec_aslZpx (zp : Byte) (s : State) : exec (.aslZpx zp) s = shiftMem aslByte (.zpx zp) s := rfl
@[simp] theorem exec_aslAbs (w : Word) (s : State) : exec (.aslAbs w) s = shiftMem aslByte (.abs w) s := rfl
@[simp] theorem exec_aslAbx (w : Word) (s : State) : exec (.aslAbx w) s = shiftMem aslByte (.abx w) s := rfl
@[simp] theorem exec_aslAcc (s : State) : exec .aslAcc s = shiftAcc aslByte s := rfl
@[simp] theorem exec_lsrZp (zp : Byte) (s : State) : exec (.lsrZp zp) s = shiftMem lsrByte (.zp zp) s := rfl
@[simp] theorem exec_lsrZpx (zp : Byte) (s : State) : exec (.lsrZpx zp) s = shiftMem lsrByte (.zpx zp) s := rfl
@[simp] theorem exec_lsrAbs (w : Word) (s : State) : exec (.lsrAbs w) s = shiftMem lsrByte (.abs w) s := rfl
@[simp] theorem exec_lsrAbx (w : Word) (s : State) : exec (.lsrAbx w) s = shiftMem lsrByte (.abx w) s := rfl
@[simp] theorem exec_lsrAcc (s : State) : exec .lsrAcc s = shiftAcc lsrByte s := rfl
@[simp] theorem exec_rolZp (zp : Byte) (s : State) : exec (.rolZp zp) s = shiftMem rotateLeft (.zp zp) s := rfl
@[simp] theorem exec_rolZpx (zp : Byte) (s : State) : exec (.rolZpx zp) s = shiftMem rotateLeft (.zpx zp) s := rfl
@[simp] theorem exec_rolAbs (w : Word) (s : State) : exec (.rolAbs w) s = shiftMem rotateLeft (.abs w) s := rfl
@[simp] theorem exec_rolAbx (w : Word) (s : State) : exec (.rolAbx w) s = shiftMem rotateLeft (.abx w) s := rfl
@[simp] theorem exec_rolAcc (s : State) : exec .rolAcc s = shiftAcc rotateLeft s := rfl
@[simp] theorem exec_rorZp (zp : Byte) (s : State) : exec (.rorZp zp) s = shiftMem rotateRight (.zp zp) s := rfl
@[simp] theorem exec_rorZpx (zp : Byte) (s : State) : exec (.rorZpx zp) s =
    shiftMem rotateRight (.zpx zp) s := rfl
@[simp] theorem exec_rorAbs (w : Word) (s : State) : exec (.rorAbs w) s = shiftMem rotateRight (.abs w) s := rfl
@[simp] theorem exec_rorAbx (w : Word) (s : State) : exec (.rorAbx w) s = shiftMem rotateRight (.abx w) s := rfl
@[simp] theorem exec_rorAcc (s : State) : exec .rorAcc s = shiftAcc rotateRight s := rfl
@[simp] theorem exec_decZp (zp : Byte) (s : State) : exec (.decZp zp) s = stepMem 0xFF#8 (.zp zp) s := rfl
@[simp] theorem exec_decZpx (zp : Byte) (s : State) : exec (.decZpx zp) s = stepMem 0xFF#8 (.zpx zp) s := rfl
@[simp] theorem exec_decAbs (w : Word) (s : State) : exec (.decAbs w) s = stepMem 0xFF#8 (.abs w) s := rfl
@[simp] theorem exec_decAbx (w : Word) (s : State) : exec (.decAbx w) s = stepMem 0xFF#8 (.abx w) s := rfl
@[simp] theorem exec_incZp (zp : Byte) (s : State) : exec (.incZp zp) s = stepMem 1#8 (.zp zp) s := rfl
@[simp] theorem exec_incZpx (zp : Byte) (s : State) : exec (.incZpx zp) s = stepMem 1#8 (.zpx zp) s := rfl
@[simp] theorem exec_incAbs (w : Word) (s : State) : exec (.incAbs w) s = stepMem 1#8 (.abs w) s := rfl
@[simp] theorem exec_incAbx (w : Word) (s : State) : exec (.incAbx w) s = stepMem 1#8 (.abx w) s := rfl
@[simp] theorem exec_tax (s : State) : exec .tax s = impliedOp (fun s => s.loadX s.a) s := rfl
@[simp] theorem exec_txa (s : State) : exec .txa s = impliedOp (fun s => s.loadA s.x) s := rfl
@[simp] theorem exec_dex (s : State) : exec .dex s = impliedOp (fun s => s.loadX (s.x - 1#8)) s := rfl
@[simp] theorem exec_inx (s : State) : exec .inx s = impliedOp (fun s => s.loadX (s.x + 1#8)) s := rfl
@[simp] theorem exec_tay (s : State) : exec .tay s = impliedOp (fun s => s.loadY s.a) s := rfl
@[simp] theorem exec_tya (s : State) : exec .tya s = impliedOp (fun s => s.loadA s.y) s := rfl
@[simp] theorem exec_dey (s : State) : exec .dey s = impliedOp (fun s => s.loadY (s.y - 1#8)) s := rfl
@[simp] theorem exec_iny (s : State) : exec .iny s = impliedOp (fun s => s.loadY (s.y + 1#8)) s := rfl
@[simp] theorem exec_bpl (disp : Byte) (s : State) : exec (.bpl disp) s = branchOp (fun s => !s.fN) disp s := rfl
@[simp] theorem exec_bmi (disp : Byte) (s : State) : exec (.bmi disp) s = branchOp (fun s => s.fN) disp s := rfl
@[simp] theorem exec_bvc (disp : Byte) (s : State) : exec (.bvc disp) s = branchOp (fun s => !s.fV) disp s := rfl
@[simp] theorem exec_bvs (disp : Byte) (s : State) : exec (.bvs disp) s = branchOp (fun s => s.fV) disp s := rfl
@[simp] theorem exec_bcc (disp : Byte) (s : State) : exec (.bcc disp) s = branchOp (fun s => !s.fC) disp s := rfl
@[simp] theorem exec_bcs (disp : Byte) (s : State) : exec (.bcs disp) s = branchOp (fun s => s.fC) disp s := rfl
@[simp] theorem exec_bne (disp : Byte) (s : State) : exec (.bne disp) s = branchOp (fun s => !s.fZ) disp s := rfl
@[simp] theorem exec_beq (disp : Byte) (s : State) : exec (.beq disp) s = branchOp (fun s => s.fZ) disp s := rfl
@[simp] theorem exec_jmpAbs (w : Word) (s : State) : exec (.jmpAbs w) s = .next ((s.advance 3).jump w) := rfl
@[simp] theorem exec_jmpInd (w : Word) (s : State) : exec (.jmpInd w) s =
    if s.kindOf w == .io || s.kindOf (vectorHighAddr w) == .io then .refused (.deviceExtraAccess w)
    else
    let l := (s.advance 3).readByte w
    let h := l.2.readByte (vectorHighAddr w)
    .next (h.2.jump (join h.1 l.1)) := rfl
@[simp] theorem exec_jsr (w : Word) (s : State) : exec (.jsr w) s =
    .next (((s.advance 3).pushWord (s.pc + 2#16)).jump w) := rfl
@[simp] theorem exec_rts (s : State) : exec .rts s =
    .next ((s.advance 1).pullWord.2.jump ((s.advance 1).pullWord.1 + 1#16)) := rfl
@[simp] theorem exec_clc (s : State) : exec .clc s = impliedOp (fun s => { s with fC := false }) s := rfl
@[simp] theorem exec_sec (s : State) : exec .sec s = impliedOp (fun s => { s with fC := true }) s := rfl
@[simp] theorem exec_cli (s : State) : exec .cli s = impliedOp (fun s => { s with fI := false }) s := rfl
@[simp] theorem exec_sei (s : State) : exec .sei s = impliedOp (fun s => { s with fI := true }) s := rfl
@[simp] theorem exec_clv (s : State) : exec .clv s = impliedOp (fun s => { s with fV := false }) s := rfl
@[simp] theorem exec_cld (s : State) : exec .cld s = impliedOp (fun s => { s with fD := false }) s := rfl
@[simp] theorem exec_sed (s : State) : exec .sed s = impliedOp (fun s => { s with fD := true }) s := rfl
@[simp] theorem exec_txs (s : State) : exec .txs s = impliedOp (fun s => { s with sp := s.x }) s := rfl
@[simp] theorem exec_tsx (s : State) : exec .tsx s = impliedOp (fun s => s.loadX s.sp) s := rfl
@[simp] theorem exec_pha (s : State) : exec .pha s = impliedOp (fun s => s.push s.a) s := rfl
@[simp] theorem exec_pla (s : State) : exec .pla s = impliedOp (fun s => s.pull.2.loadA s.pull.1) s := rfl
@[simp] theorem exec_php (s : State) : exec .php s = impliedOp (fun s => s.push (s.statusByte true)) s := rfl
@[simp] theorem exec_plp (s : State) : exec .plp s = impliedOp (fun s => s.pull.2.setStatus s.pull.1) s := rfl
@[simp] theorem exec_brk (s : State) : exec .brk s = .next (s.enter (s.pc + 2#16) s.vecIrq true) := rfl
@[simp] theorem exec_rti (s : State) : exec .rti s = .next s.returnFromException := rfl
@[simp] theorem exec_nop (s : State) : exec .nop s = impliedOp (fun s => s) s := rfl

end Sys2Proof.Machine
end

