-- ==== Sys2Proof/Laws/Safety.lean ====
section
/-! SUPPORT. What the premise `NoDevices` gives: no address is a device's with side effects, so no form and no
branch is refused. It depends on the map alone. -/

namespace Sys2Proof.Safety

open Sys2Proof.Machine

/-- No address is a device's with side effects. -/
theorem NoDevices.kindOf_ne_io {s : State} (h : NoDevices s) (a : Word) : s.kindOf a ≠ .io := by
  have key : ∀ (l : List Region) (n : Nat), (∀ r ∈ l, r.kind ≠ .io) → mapKind l n ≠ .io := by
    intro l n
    induction l with
    | nil => simp [mapKind]
    | cons r l ih =>
      intro hl
      simp only [mapKind]
      split
      · exact hl r (by simp)
      · exact ih fun q hq => hl q (by simp [hq])
  simp only [State.kindOf]
  split
  · simp
  · exact key s.regions a.toNat h

/-- A state with the same map keeps the premise. -/
theorem NoDevices.of_regions {s t : State} (h : NoDevices s) (ht : t.regions = s.regions) : NoDevices t := by
  simpa [NoDevices, ht] using h

@[simp] theorem NoDevices.hitsDevice {s : State} (h : NoDevices s) (f : MemForm) : f.hitsDevice s = false := by
  simp [MemForm.hitsDevice, h.kindOf_ne_io]

@[simp] theorem NoDevices.refuses {s : State} (h : NoDevices s) (f : MemForm) : f.refuses s = false := by
  simp [MemForm.refuses, h.hitsDevice]

@[simp] theorem NoDevices.branchHitsDevice {s : State} (h : NoDevices s) (disp : Byte) :
    s.branchHitsDevice disp = false := by simp [State.branchHitsDevice, h.kindOf_ne_io]

end Sys2Proof.Safety
end

