-- ==== Sys2Proof/Tests/Slice0.lean ====
section
/-! SUPPORT. The author's own tests: ill-formed raw instructions, the decoding of every constructor, one step of
every mnemonic, interrupts and reset, the assembler and the cycle counts; then a witness for the hypotheses of
each obligation. Expected results come from the spec: its test vectors (95_test_vectors.md, cited by T number),
its op code table (30_encoding.md R98), and its U6 and U15 tables, or from hand calculation by a rule cited. -/

open Sys2Proof Sys2Proof.Machine Sys2Proof.Safety

/-! ### Ill-formed raw instructions (R82, R98) -/

/-- STA has no immediate mode (R98, T14.7). -/
theorem test_wf_mode_refused : RawInstr.wellFormed ⟨.sta, .imm, .byte 0x44#8⟩ = false := by decide

/-- INC has no accumulator mode (R98, T14.6). -/
theorem test_wf_accumulator_refused : RawInstr.wellFormed ⟨.inc, .acc, .none⟩ = false := by decide

/-- An immediate operand cannot be missing (R82). -/
theorem test_wf_missing_operand_refused : RawInstr.wellFormed ⟨.lda, .imm, .none⟩ = false := by decide

/-- A zero-page operand is one byte, not two (R82). -/
theorem test_wf_long_operand_refused : RawInstr.wellFormed ⟨.lda, .zp, .word 0x4400#16⟩ = false := by decide

/-- LDA $4400 passes both checks. -/
theorem test_wf_accepts : RawInstr.wellFormed ⟨.lda, .abs, .word 0x4400#16⟩ = true := by decide

/-! ### Decoding: every row's op code byte (R98), with operand byte $81 or operand bytes $81 $C5 -/

theorem test_decode_lda : decodeTableWord 16 0x81A9 = some (.ldaImm 0x81) ∧
    decodeTableWord 16 0x81A5 = some (.ldaZp 0x81) ∧
    decodeTableWord 16 0x81B5 = some (.ldaZpx 0x81) ∧
    decodeTableWord 24 0xC581AD = some (.ldaAbs 0xC581) ∧
    decodeTableWord 24 0xC581BD = some (.ldaAbx 0xC581) ∧
    decodeTableWord 24 0xC581B9 = some (.ldaAby 0xC581) ∧
    decodeTableWord 16 0x81A1 = some (.ldaIzx 0x81) ∧
    decodeTableWord 16 0x81B1 = some (.ldaIzy 0x81) := by decide

theorem test_decode_ldx : decodeTableWord 16 0x81A2 = some (.ldxImm 0x81) ∧
    decodeTableWord 16 0x81A6 = some (.ldxZp 0x81) ∧
    decodeTableWord 16 0x81B6 = some (.ldxZpy 0x81) ∧
    decodeTableWord 24 0xC581AE = some (.ldxAbs 0xC581) ∧
    decodeTableWord 24 0xC581BE = some (.ldxAby 0xC581) := by decide

theorem test_decode_ldy : decodeTableWord 16 0x81A0 = some (.ldyImm 0x81) ∧
    decodeTableWord 16 0x81A4 = some (.ldyZp 0x81) ∧
    decodeTableWord 16 0x81B4 = some (.ldyZpx 0x81) ∧
    decodeTableWord 24 0xC581AC = some (.ldyAbs 0xC581) ∧
    decodeTableWord 24 0xC581BC = some (.ldyAbx 0xC581) := by decide

theorem test_decode_sta : decodeTableWord 16 0x8185 = some (.staZp 0x81) ∧
    decodeTableWord 16 0x8195 = some (.staZpx 0x81) ∧
    decodeTableWord 24 0xC5818D = some (.staAbs 0xC581) ∧
    decodeTableWord 24 0xC5819D = some (.staAbx 0xC581) ∧
    decodeTableWord 24 0xC58199 = some (.staAby 0xC581) ∧
    decodeTableWord 16 0x8181 = some (.staIzx 0x81) ∧
    decodeTableWord 16 0x8191 = some (.staIzy 0x81) := by decide

theorem test_decode_stx : decodeTableWord 16 0x8186 = some (.stxZp 0x81) ∧
    decodeTableWord 16 0x8196 = some (.stxZpy 0x81) ∧
    decodeTableWord 24 0xC5818E = some (.stxAbs 0xC581) := by decide

theorem test_decode_sty : decodeTableWord 16 0x8184 = some (.styZp 0x81) ∧
    decodeTableWord 16 0x8194 = some (.styZpx 0x81) ∧
    decodeTableWord 24 0xC5818C = some (.styAbs 0xC581) := by decide

theorem test_decode_adc : decodeTableWord 16 0x8169 = some (.adcImm 0x81) ∧
    decodeTableWord 16 0x8165 = some (.adcZp 0x81) ∧
    decodeTableWord 16 0x8175 = some (.adcZpx 0x81) ∧
    decodeTableWord 24 0xC5816D = some (.adcAbs 0xC581) ∧
    decodeTableWord 24 0xC5817D = some (.adcAbx 0xC581) ∧
    decodeTableWord 24 0xC58179 = some (.adcAby 0xC581) ∧
    decodeTableWord 16 0x8161 = some (.adcIzx 0x81) ∧
    decodeTableWord 16 0x8171 = some (.adcIzy 0x81) := by decide

theorem test_decode_sbc : decodeTableWord 16 0x81E9 = some (.sbcImm 0x81) ∧
    decodeTableWord 16 0x81E5 = some (.sbcZp 0x81) ∧
    decodeTableWord 16 0x81F5 = some (.sbcZpx 0x81) ∧
    decodeTableWord 24 0xC581ED = some (.sbcAbs 0xC581) ∧
    decodeTableWord 24 0xC581FD = some (.sbcAbx 0xC581) ∧
    decodeTableWord 24 0xC581F9 = some (.sbcAby 0xC581) ∧
    decodeTableWord 16 0x81E1 = some (.sbcIzx 0x81) ∧
    decodeTableWord 16 0x81F1 = some (.sbcIzy 0x81) := by decide

theorem test_decode_cmp : decodeTableWord 16 0x81C9 = some (.cmpImm 0x81) ∧
    decodeTableWord 16 0x81C5 = some (.cmpZp 0x81) ∧
    decodeTableWord 16 0x81D5 = some (.cmpZpx 0x81) ∧
    decodeTableWord 24 0xC581CD = some (.cmpAbs 0xC581) ∧
    decodeTableWord 24 0xC581DD = some (.cmpAbx 0xC581) ∧
    decodeTableWord 24 0xC581D9 = some (.cmpAby 0xC581) ∧
    decodeTableWord 16 0x81C1 = some (.cmpIzx 0x81) ∧
    decodeTableWord 16 0x81D1 = some (.cmpIzy 0x81) := by decide

theorem test_decode_cpx : decodeTableWord 16 0x81E0 = some (.cpxImm 0x81) ∧
    decodeTableWord 16 0x81E4 = some (.cpxZp 0x81) ∧
    decodeTableWord 24 0xC581EC = some (.cpxAbs 0xC581) := by decide

theorem test_decode_cpy : decodeTableWord 16 0x81C0 = some (.cpyImm 0x81) ∧
    decodeTableWord 16 0x81C4 = some (.cpyZp 0x81) ∧
    decodeTableWord 24 0xC581CC = some (.cpyAbs 0xC581) := by decide

theorem test_decode_and : decodeTableWord 16 0x8129 = some (.andImm 0x81) ∧
    decodeTableWord 16 0x8125 = some (.andZp 0x81) ∧
    decodeTableWord 16 0x8135 = some (.andZpx 0x81) ∧
    decodeTableWord 24 0xC5812D = some (.andAbs 0xC581) ∧
    decodeTableWord 24 0xC5813D = some (.andAbx 0xC581) ∧
    decodeTableWord 24 0xC58139 = some (.andAby 0xC581) ∧
    decodeTableWord 16 0x8121 = some (.andIzx 0x81) ∧
    decodeTableWord 16 0x8131 = some (.andIzy 0x81) := by decide

theorem test_decode_bit : decodeTableWord 16 0x8124 = some (.bitZp 0x81) ∧
    decodeTableWord 24 0xC5812C = some (.bitAbs 0xC581) := by decide

theorem test_decode_eor : decodeTableWord 16 0x8149 = some (.eorImm 0x81) ∧
    decodeTableWord 16 0x8145 = some (.eorZp 0x81) ∧
    decodeTableWord 16 0x8155 = some (.eorZpx 0x81) ∧
    decodeTableWord 24 0xC5814D = some (.eorAbs 0xC581) ∧
    decodeTableWord 24 0xC5815D = some (.eorAbx 0xC581) ∧
    decodeTableWord 24 0xC58159 = some (.eorAby 0xC581) ∧
    decodeTableWord 16 0x8141 = some (.eorIzx 0x81) ∧
    decodeTableWord 16 0x8151 = some (.eorIzy 0x81) := by decide

theorem test_decode_ora : decodeTableWord 16 0x8109 = some (.oraImm 0x81) ∧
    decodeTableWord 16 0x8105 = some (.oraZp 0x81) ∧
    decodeTableWord 16 0x8115 = some (.oraZpx 0x81) ∧
    decodeTableWord 24 0xC5810D = some (.oraAbs 0xC581) ∧
    decodeTableWord 24 0xC5811D = some (.oraAbx 0xC581) ∧
    decodeTableWord 24 0xC58119 = some (.oraAby 0xC581) ∧
    decodeTableWord 16 0x8101 = some (.oraIzx 0x81) ∧
    decodeTableWord 16 0x8111 = some (.oraIzy 0x81) := by decide

theorem test_decode_asl : decodeTableWord 16 0x8106 = some (.aslZp 0x81) ∧
    decodeTableWord 16 0x8116 = some (.aslZpx 0x81) ∧
    decodeTableWord 24 0xC5810E = some (.aslAbs 0xC581) ∧
    decodeTableWord 24 0xC5811E = some (.aslAbx 0xC581) ∧
    decodeTableWord 8 0x0A = some .aslAcc := by decide

theorem test_decode_lsr : decodeTableWord 16 0x8146 = some (.lsrZp 0x81) ∧
    decodeTableWord 16 0x8156 = some (.lsrZpx 0x81) ∧
    decodeTableWord 24 0xC5814E = some (.lsrAbs 0xC581) ∧
    decodeTableWord 24 0xC5815E = some (.lsrAbx 0xC581) ∧
    decodeTableWord 8 0x4A = some .lsrAcc := by decide

theorem test_decode_rol : decodeTableWord 16 0x8126 = some (.rolZp 0x81) ∧
    decodeTableWord 16 0x8136 = some (.rolZpx 0x81) ∧
    decodeTableWord 24 0xC5812E = some (.rolAbs 0xC581) ∧
    decodeTableWord 24 0xC5813E = some (.rolAbx 0xC581) ∧
    decodeTableWord 8 0x2A = some .rolAcc := by decide

theorem test_decode_ror : decodeTableWord 16 0x8166 = some (.rorZp 0x81) ∧
    decodeTableWord 16 0x8176 = some (.rorZpx 0x81) ∧
    decodeTableWord 24 0xC5816E = some (.rorAbs 0xC581) ∧
    decodeTableWord 24 0xC5817E = some (.rorAbx 0xC581) ∧
    decodeTableWord 8 0x6A = some .rorAcc := by decide

theorem test_decode_dec : decodeTableWord 16 0x81C6 = some (.decZp 0x81) ∧
    decodeTableWord 16 0x81D6 = some (.decZpx 0x81) ∧
    decodeTableWord 24 0xC581CE = some (.decAbs 0xC581) ∧
    decodeTableWord 24 0xC581DE = some (.decAbx 0xC581) := by decide

theorem test_decode_inc : decodeTableWord 16 0x81E6 = some (.incZp 0x81) ∧
    decodeTableWord 16 0x81F6 = some (.incZpx 0x81) ∧
    decodeTableWord 24 0xC581EE = some (.incAbs 0xC581) ∧
    decodeTableWord 24 0xC581FE = some (.incAbx 0xC581) := by decide

theorem test_decode_tax : decodeTableWord 8 0xAA = some .tax := by decide

theorem test_decode_txa : decodeTableWord 8 0x8A = some .txa := by decide

theorem test_decode_dex : decodeTableWord 8 0xCA = some .dex := by decide

theorem test_decode_inx : decodeTableWord 8 0xE8 = some .inx := by decide

theorem test_decode_tay : decodeTableWord 8 0xA8 = some .tay := by decide

theorem test_decode_tya : decodeTableWord 8 0x98 = some .tya := by decide

theorem test_decode_dey : decodeTableWord 8 0x88 = some .dey := by decide

theorem test_decode_iny : decodeTableWord 8 0xC8 = some .iny := by decide

theorem test_decode_bpl : decodeTableWord 16 0x8110 = some (.bpl 0x81) := by decide

theorem test_decode_bmi : decodeTableWord 16 0x8130 = some (.bmi 0x81) := by decide

theorem test_decode_bvc : decodeTableWord 16 0x8150 = some (.bvc 0x81) := by decide

theorem test_decode_bvs : decodeTableWord 16 0x8170 = some (.bvs 0x81) := by decide

theorem test_decode_bcc : decodeTableWord 16 0x8190 = some (.bcc 0x81) := by decide

theorem test_decode_bcs : decodeTableWord 16 0x81B0 = some (.bcs 0x81) := by decide

theorem test_decode_bne : decodeTableWord 16 0x81D0 = some (.bne 0x81) := by decide

theorem test_decode_beq : decodeTableWord 16 0x81F0 = some (.beq 0x81) := by decide

theorem test_decode_jmp : decodeTableWord 24 0xC5814C = some (.jmpAbs 0xC581) ∧
    decodeTableWord 24 0xC5816C = some (.jmpInd 0xC581) := by decide

theorem test_decode_jsr : decodeTableWord 24 0xC58120 = some (.jsr 0xC581) := by decide

theorem test_decode_rts : decodeTableWord 8 0x60 = some .rts := by decide

theorem test_decode_clc : decodeTableWord 8 0x18 = some .clc := by decide

theorem test_decode_sec : decodeTableWord 8 0x38 = some .sec := by decide

theorem test_decode_cli : decodeTableWord 8 0x58 = some .cli := by decide

theorem test_decode_sei : decodeTableWord 8 0x78 = some .sei := by decide

theorem test_decode_clv : decodeTableWord 8 0xB8 = some .clv := by decide

theorem test_decode_cld : decodeTableWord 8 0xD8 = some .cld := by decide

theorem test_decode_sed : decodeTableWord 8 0xF8 = some .sed := by decide

theorem test_decode_txs : decodeTableWord 8 0x9A = some .txs := by decide

theorem test_decode_tsx : decodeTableWord 8 0xBA = some .tsx := by decide

theorem test_decode_pha : decodeTableWord 8 0x48 = some .pha := by decide

theorem test_decode_pla : decodeTableWord 8 0x68 = some .pla := by decide

theorem test_decode_php : decodeTableWord 8 0x08 = some .php := by decide

theorem test_decode_plp : decodeTableWord 8 0x28 = some .plp := by decide

theorem test_decode_brk : decodeTableWord 8 0x00 = some .brk := by decide

theorem test_decode_rti : decodeTableWord 8 0x40 = some .rti := by decide

theorem test_decode_nop : decodeTableWord 8 0xEA = some .nop := by decide

/-- 151 op code bytes are defined, 29 of them of one byte, 74 of two, 48 of three (the counts after T14). -/
theorem test_decode_counts :
    let found := (List.range 256).filterMap (fun n => decodeTableWord 8 n)
    found.length = 151 ∧ (found.filter (fun i => i.length == 1)).length = 29 ∧
      (found.filter (fun i => i.length == 2)).length = 74 ∧
      (found.filter (fun i => i.length == 3)).length = 48 := by decide +kernel

/-- $02, $80, $1A, $89 and $FF are not op codes (T14.4 to T14.8). -/
theorem test_decode_undefined :
    [0x02, 0x80, 0x1A, 0x89, 0xFF].map (fun n => decodeTableWord 8 n) = [none, none, none, none, none] := by decide

/-- A byte string that ends inside an instruction is refused by name. -/
theorem test_decode_short :
    decode [0xAD#8, 0x00#8] = .error .truncated ∧ decode [] = .error .truncated := by decide

/-! ### One step from a small state -/

/-- The start state of the vectors: S = $FF, PC = $0200, flags 0. -/
def start : State := { State.reset with sp := 0xFF#8, pc := 0x0200#16, fI := false, iBefore := false }

/-- Memory cells filled in. -/
def poke (s : State) (cells : List (Nat × Nat)) : State :=
  { s with mem := cells.foldl (fun m c => m.write (BitVec.ofNat 16 c.1) (BitVec.ofNat 8 c.2)) s.mem }

/-- One step answers a next state that passes the check. -/
def stepped (s : State) (cells : List (Nat × Nat)) (check : State → Bool) : Bool :=
  match step (poke s cells) with
  | .next t => check t
  | .fault _ => false
  | .refused _ => false

/-- T1.4: LDA $80,X (wraps). -/
theorem test_lda_T1_4 : stepped { start with x := 0xFF#8 } [(0x0200, 0xB5), (0x0201, 0x80), (0x007F, 0x11), (0x017F, 0x22)]
    (fun t => t.a == 0x11#8 && t.pc == 0x0202#16) = true := by decide

/-- T1.9: LDA ($FF,X) pointer wraps in page 0. -/
theorem test_lda_T1_9 : stepped { start with x := 0x00#8 } [(0x0200, 0xA1), (0x0201, 0xFF), (0x0000, 0x12), (0x00FF, 0x34), (0x0100, 0x77), (0x1234, 0xA5), (0x7734, 0xEE)]
    (fun t => t.a == 0xA5#8 && t.fN == true && t.pc == 0x0202#16) = true := by decide

/-- T1.14: LDX $F0,Y (wraps). -/
theorem test_ldx_T1_14 : stepped { start with y := 0x20#8 } [(0x0200, 0xB6), (0x0201, 0xF0), (0x0010, 0x07), (0x0110, 0x08)]
    (fun t => t.x == 0x07#8 && t.pc == 0x0202#16) = true := by decide

/-- T1.15: LDX $4400,Y. -/
theorem test_ldx_T1_15 : stepped { start with y := 0x01#8 } [(0x0200, 0xBE), (0x0201, 0x00), (0x0202, 0x44), (0x4401, 0x00)]
    (fun t => t.fZ == true && t.pc == 0x0203#16) = true := by decide

/-- T1.16: LDY $44,X. -/
theorem test_ldy_T1_16 : stepped { start with x := 0x01#8 } [(0x0200, 0xB4), (0x0201, 0x44), (0x0045, 0x81)]
    (fun t => t.y == 0x81#8 && t.fN == true && t.pc == 0x0202#16) = true := by decide

/-- T1.17: LDY $4400,X. -/
theorem test_ldy_T1_17 : stepped { start with x := 0xFF#8 } [(0x0200, 0xBC), (0x0201, 0x00), (0x0202, 0x44), (0x44FF, 0x01)]
    (fun t => t.y == 0x01#8 && t.pc == 0x0203#16) = true := by decide

/-- T1.19: STA $F0,X (wraps). -/
theorem test_sta_T1_19 : stepped { start with a := 0xAB#8, x := 0x11#8 } [(0x0200, 0x95), (0x0201, 0xF0)]
    (fun t => t.pc == 0x0202#16 && t.mem.read 0x0001#16 == 0xAB#8) = true := by decide

/-- T1.23: STA ($44),Y. -/
theorem test_sta_T1_23 : stepped { start with a := 0xCD#8, y := 0xFF#8 } [(0x0200, 0x91), (0x0201, 0x44), (0x0044, 0x01), (0x0045, 0x20)]
    (fun t => t.pc == 0x0202#16 && t.mem.read 0x2100#16 == 0xCD#8) = true := by decide

/-- T1.24: STX $FF,Y (wraps). -/
theorem test_stx_T1_24 : stepped { start with x := 0x5A#8, y := 0x02#8 } [(0x0200, 0x96), (0x0201, 0xFF)]
    (fun t => t.pc == 0x0202#16 && t.mem.read 0x0001#16 == 0x5A#8) = true := by decide

/-- T1.25: STX $4400. -/
theorem test_stx_T1_25 : stepped { start with x := 0x5A#8 } [(0x0200, 0x8E), (0x0201, 0x00), (0x0202, 0x44)]
    (fun t => t.pc == 0x0203#16 && t.mem.read 0x4400#16 == 0x5A#8) = true := by decide

/-- T1.26: STY $44,X. -/
theorem test_sty_T1_26 : stepped { start with y := 0xA5#8, x := 0x01#8 } [(0x0200, 0x94), (0x0201, 0x44)]
    (fun t => t.pc == 0x0202#16 && t.mem.read 0x0045#16 == 0xA5#8) = true := by decide

/-- T1.27: STY $4400 (op code $8C). -/
theorem test_sty_T1_27 : stepped { start with y := 0xA5#8 } [(0x0200, 0x8C), (0x0201, 0x00), (0x0202, 0x44)]
    (fun t => t.pc == 0x0203#16 && t.mem.read 0x4400#16 == 0xA5#8) = true := by decide

/-- T2.9: ADC #$90. -/
theorem test_adc_T2_9 : stepped { start with a := 0xD0#8, fC := false } [(0x0200, 0x69), (0x0201, 0x90)]
    (fun t => t.a == 0x60#8 && t.fN == false && t.fV == true && t.fZ == false && t.fC == true && t.pc == 0x0202#16) = true := by decide

/-- T2.20: SBC #$00. -/
theorem test_sbc_T2_20 : stepped { start with a := 0x80#8, fC := false } [(0x0200, 0xE9), (0x0201, 0x00)]
    (fun t => t.a == 0x7F#8 && t.fN == false && t.fV == true && t.fZ == false && t.fC == true && t.pc == 0x0202#16) = true := by decide

/-- T3.3: ADC #$99. -/
theorem test_adc_T3_3 : stepped { start with fD := true, a := 0x99#8, fC := true } [(0x0200, 0x69), (0x0201, 0x99)]
    (fun t => t.a == 0x99#8 && t.fC == true && t.pc == 0x0202#16) = true := by decide

/-- T3.10: SBC #$21. -/
theorem test_sbc_T3_10 : stepped { start with fD := true, a := 0x12#8, fC := true } [(0x0200, 0xE9), (0x0201, 0x21)]
    (fun t => t.a == 0x91#8 && t.fC == false && t.pc == 0x0202#16) = true := by decide

/-- T4.4: CMP #$80. -/
theorem test_cmp_T4_4 : stepped { start with a := 0x00#8, fV := true, fC := true } [(0x0200, 0xC9), (0x0201, 0x80)]
    (fun t => t.fN == true && t.fV == true && t.fZ == false && t.fC == false && t.pc == 0x0202#16) = true := by decide

/-- T4.8: CMP #$10 with D = 1 (binary all the same). -/
theorem test_cmp_T4_8 : stepped { start with a := 0x09#8, fD := true } [(0x0200, 0xC9), (0x0201, 0x10)]
    (fun t => t.fN == true && t.fZ == false && t.fC == false && t.pc == 0x0202#16) = true := by decide

/-- T4.9: CPX #$20. -/
theorem test_cpx_T4_9 : stepped { start with x := 0x10#8 } [(0x0200, 0xE0), (0x0201, 0x20)]
    (fun t => t.fN == true && t.fZ == false && t.fC == false && t.pc == 0x0202#16) = true := by decide

/-- T4.10: CPX $4400. -/
theorem test_cpx_T4_10 : stepped { start with x := 0x80#8 } [(0x0200, 0xEC), (0x0201, 0x00), (0x0202, 0x44), (0x4400, 0x7F)]
    (fun t => t.fN == false && t.fZ == false && t.fC == true && t.pc == 0x0203#16) = true := by decide

/-- T4.11: CPY $44. -/
theorem test_cpy_T4_11 : stepped { start with y := 0x05#8 } [(0x0200, 0xC4), (0x0201, 0x44), (0x0044, 0x05)]
    (fun t => t.fN == false && t.fZ == true && t.fC == true && t.pc == 0x0202#16) = true := by decide

/-- T4.12: CPY #$01. -/
theorem test_cpy_T4_12 : stepped { start with y := 0x00#8 } [(0x0200, 0xC0), (0x0201, 0x01)]
    (fun t => t.fN == true && t.fZ == false && t.fC == false && t.pc == 0x0202#16) = true := by decide

/-- T5.2: AND #$0F. -/
theorem test_and_T5_2 : stepped { start with a := 0xF0#8 } [(0x0200, 0x29), (0x0201, 0x0F)]
    (fun t => t.a == 0x00#8 && t.fN == false && t.fZ == true && t.pc == 0x0202#16) = true := by decide

/-- T5.3: AND $4400,X. -/
theorem test_and_T5_3 : stepped { start with a := 0xFF#8, x := 0x01#8 } [(0x0200, 0x3D), (0x0201, 0x00), (0x0202, 0x44), (0x4401, 0x80)]
    (fun t => t.a == 0x80#8 && t.fN == true && t.fZ == false && t.pc == 0x0203#16) = true := by decide

/-- T5.4: ORA #$80. -/
theorem test_ora_T5_4 : stepped { start with a := 0x01#8 } [(0x0200, 0x09), (0x0201, 0x80)]
    (fun t => t.a == 0x81#8 && t.fN == true && t.fZ == false && t.pc == 0x0202#16) = true := by decide

/-- T5.5: ORA #$00. -/
theorem test_ora_T5_5 : stepped { start with a := 0x00#8 } [(0x0200, 0x09), (0x0201, 0x00)]
    (fun t => t.fN == false && t.fZ == true && t.pc == 0x0202#16) = true := by decide

/-- T5.6: EOR #$FF. -/
theorem test_eor_T5_6 : stepped { start with a := 0xAA#8 } [(0x0200, 0x49), (0x0201, 0xFF)]
    (fun t => t.a == 0x55#8 && t.fN == false && t.fZ == false && t.pc == 0x0202#16) = true := by decide

/-- T5.8: EOR ($44),Y. -/
theorem test_eor_T5_8 : stepped { start with a := 0x0F#8, y := 0x02#8 } [(0x0200, 0x51), (0x0201, 0x44), (0x0044, 0x00), (0x0045, 0x30), (0x3002, 0xF0)]
    (fun t => t.a == 0xFF#8 && t.fN == true && t.fZ == false && t.pc == 0x0202#16) = true := by decide

/-- T5.9: BIT $44. -/
theorem test_bit_T5_9 : stepped { start with a := 0x0F#8 } [(0x0200, 0x24), (0x0201, 0x44), (0x0044, 0xC0)]
    (fun t => t.fN == true && t.fV == true && t.fZ == true && t.pc == 0x0202#16) = true := by decide

/-- T5.12: BIT $4400. -/
theorem test_bit_T5_12 : stepped { start with a := 0x80#8 } [(0x0200, 0x2C), (0x0201, 0x00), (0x0202, 0x44), (0x4400, 0x80)]
    (fun t => t.fN == true && t.fV == false && t.fZ == false && t.pc == 0x0203#16) = true := by decide

/-- T6.1: ASL A. -/
theorem test_asl_T6_1 : stepped { start with a := 0x81#8 } [(0x0200, 0x0A)]
    (fun t => t.a == 0x02#8 && t.fN == false && t.fZ == false && t.fC == true && t.pc == 0x0201#16) = true := by decide

/-- T6.4: ASL $44. -/
theorem test_asl_T6_4 : stepped { start with a := 0x77#8 } [(0x0200, 0x06), (0x0201, 0x44), (0x0044, 0xFF)]
    (fun t => t.a == 0x77#8 && t.fN == true && t.fZ == false && t.fC == true && t.pc == 0x0202#16 && t.mem.read 0x0044#16 == 0xFE#8) = true := by decide

/-- T6.5: LSR A. -/
theorem test_lsr_T6_5 : stepped { start with a := 0x03#8 } [(0x0200, 0x4A)]
    (fun t => t.a == 0x01#8 && t.fN == false && t.fZ == false && t.fC == true && t.pc == 0x0201#16) = true := by decide

/-- T6.7: LSR $4400,X. -/
theorem test_lsr_T6_7 : stepped { start with x := 0x01#8, fC := true } [(0x0200, 0x5E), (0x0201, 0x00), (0x0202, 0x44), (0x4401, 0x80)]
    (fun t => t.fN == false && t.fZ == false && t.fC == false && t.pc == 0x0203#16 && t.mem.read 0x4401#16 == 0x40#8) = true := by decide

/-- T6.8: ROL A. -/
theorem test_rol_T6_8 : stepped { start with a := 0x40#8, fC := true } [(0x0200, 0x2A)]
    (fun t => t.a == 0x81#8 && t.fN == true && t.fZ == false && t.fC == false && t.pc == 0x0201#16) = true := by decide

/-- T6.10: ROL $44,X. -/
theorem test_rol_T6_10 : stepped { start with x := 0x01#8, fC := true } [(0x0200, 0x36), (0x0201, 0x44), (0x0045, 0xFF)]
    (fun t => t.fN == true && t.fZ == false && t.fC == true && t.pc == 0x0202#16 && t.mem.read 0x0045#16 == 0xFF#8) = true := by decide

/-- T6.11: ROR A. -/
theorem test_ror_T6_11 : stepped { start with a := 0x02#8, fC := true } [(0x0200, 0x6A)]
    (fun t => t.a == 0x81#8 && t.fN == true && t.fZ == false && t.fC == false && t.pc == 0x0201#16) = true := by decide

/-- T6.13: ROR $4400. -/
theorem test_ror_T6_13 : stepped { start with fC := true } [(0x0200, 0x6E), (0x0201, 0x00), (0x0202, 0x44), (0x4400, 0x01)]
    (fun t => t.fN == true && t.fZ == false && t.fC == true && t.pc == 0x0203#16 && t.mem.read 0x4400#16 == 0x80#8) = true := by decide

/-- T7.1: INC $44. -/
theorem test_inc_T7_1 : stepped { start with fC := true, fV := true } [(0x0200, 0xE6), (0x0201, 0x44), (0x0044, 0xFF)]
    (fun t => t.fN == false && t.fV == true && t.fZ == true && t.fC == true && t.pc == 0x0202#16 && t.mem.read 0x0044#16 == 0x00#8) = true := by decide

/-- T7.2: INC $4400,X. -/
theorem test_inc_T7_2 : stepped { start with x := 0x02#8 } [(0x0200, 0xFE), (0x0201, 0x00), (0x0202, 0x44), (0x4402, 0x7F)]
    (fun t => t.fN == true && t.fZ == false && t.pc == 0x0203#16 && t.mem.read 0x4402#16 == 0x80#8) = true := by decide

/-- T7.3: DEC $44. -/
theorem test_dec_T7_3 : stepped start [(0x0200, 0xC6), (0x0201, 0x44), (0x0044, 0x00)]
    (fun t => t.fN == true && t.fZ == false && t.pc == 0x0202#16 && t.mem.read 0x0044#16 == 0xFF#8) = true := by decide

/-- T7.4: DEC $44,X. -/
theorem test_dec_T7_4 : stepped { start with x := 0xC0#8 } [(0x0200, 0xD6), (0x0201, 0x44), (0x0004, 0x01)]
    (fun t => t.fN == false && t.fZ == true && t.pc == 0x0202#16 && t.mem.read 0x0004#16 == 0x00#8) = true := by decide

/-- T7.5: INX. -/
theorem test_inx_T7_5 : stepped { start with x := 0xFF#8 } [(0x0200, 0xE8)]
    (fun t => t.x == 0x00#8 && t.fN == false && t.fZ == true && t.pc == 0x0201#16) = true := by decide

/-- T7.6: INX. -/
theorem test_inx_T7_6 : stepped { start with x := 0x7F#8 } [(0x0200, 0xE8)]
    (fun t => t.x == 0x80#8 && t.fN == true && t.fZ == false && t.pc == 0x0201#16) = true := by decide

/-- T7.7: DEX. -/
theorem test_dex_T7_7 : stepped { start with x := 0x00#8 } [(0x0200, 0xCA)]
    (fun t => t.x == 0xFF#8 && t.fN == true && t.fZ == false && t.pc == 0x0201#16) = true := by decide

/-- T7.8: INY. -/
theorem test_iny_T7_8 : stepped { start with y := 0xFF#8 } [(0x0200, 0xC8)]
    (fun t => t.y == 0x00#8 && t.fN == false && t.fZ == true && t.pc == 0x0201#16) = true := by decide

/-- T7.9: DEY. -/
theorem test_dey_T7_9 : stepped { start with y := 0x01#8 } [(0x0200, 0x88)]
    (fun t => t.y == 0x00#8 && t.fN == false && t.fZ == true && t.pc == 0x0201#16) = true := by decide

/-- T7.10: TAX. -/
theorem test_tax_T7_10 : stepped { start with a := 0x80#8 } [(0x0200, 0xAA)]
    (fun t => t.x == 0x80#8 && t.fN == true && t.fZ == false && t.pc == 0x0201#16) = true := by decide

/-- T7.11: TXA. -/
theorem test_txa_T7_11 : stepped { start with a := 0x55#8, x := 0x00#8 } [(0x0200, 0x8A)]
    (fun t => t.a == 0x00#8 && t.fN == false && t.fZ == true && t.pc == 0x0201#16) = true := by decide

/-- T7.12: TAY. -/
theorem test_tay_T7_12 : stepped { start with a := 0x7F#8, fN := true, fZ := true } [(0x0200, 0xA8)]
    (fun t => t.y == 0x7F#8 && t.fN == false && t.fZ == false && t.pc == 0x0201#16) = true := by decide

/-- T7.13: TYA. -/
theorem test_tya_T7_13 : stepped { start with y := 0xFF#8 } [(0x0200, 0x98)]
    (fun t => t.a == 0xFF#8 && t.fN == true && t.fZ == false && t.pc == 0x0201#16) = true := by decide

/-- T8.1: BPL +6, taken. -/
theorem test_bpl_T8_1 : stepped { start with fN := false } [(0x0200, 0x10), (0x0201, 0x06)]
    (fun t => t.pc == 0x0208#16) = true := by decide

/-- T8.2: BPL +6, not taken. -/
theorem test_bpl_T8_2 : stepped { start with fN := true } [(0x0200, 0x10), (0x0201, 0x06)]
    (fun t => t.pc == 0x0202#16) = true := by decide

/-- T8.3: BMI -6 ($FA), taken. -/
theorem test_bmi_T8_3 : stepped { start with fN := true } [(0x0200, 0x30), (0x0201, 0xFA)]
    (fun t => t.pc == 0x01FC#16) = true := by decide

/-- T8.4: BMI, not taken. -/
theorem test_bmi_T8_4 : stepped { start with fN := false } [(0x0200, 0x30), (0x0201, 0xFA)]
    (fun t => t.pc == 0x0202#16) = true := by decide

/-- T8.5: BVC +0, taken (falls to next). -/
theorem test_bvc_T8_5 : stepped { start with fV := false } [(0x0200, 0x50), (0x0201, 0x00)]
    (fun t => t.pc == 0x0202#16) = true := by decide

/-- T8.6: BVC, not taken. -/
theorem test_bvc_T8_6 : stepped { start with fV := true } [(0x0200, 0x50), (0x0201, 0x10)]
    (fun t => t.pc == 0x0202#16) = true := by decide

/-- T8.7: BVS +127 (op code $70), taken. -/
theorem test_bvs_T8_7 : stepped { start with fV := true } [(0x0200, 0x70), (0x0201, 0x7F)]
    (fun t => t.pc == 0x0281#16) = true := by decide

/-- T8.8: BVS, not taken. -/
theorem test_bvs_T8_8 : stepped { start with fV := false } [(0x0200, 0x70), (0x0201, 0x7F)]
    (fun t => t.pc == 0x0202#16) = true := by decide

/-- T8.9: BCC -128, taken. -/
theorem test_bcc_T8_9 : stepped { start with fC := false } [(0x0200, 0x90), (0x0201, 0x80)]
    (fun t => t.pc == 0x0182#16) = true := by decide

/-- T8.10: BCC, not taken. -/
theorem test_bcc_T8_10 : stepped { start with fC := true } [(0x0200, 0x90), (0x0201, 0x80)]
    (fun t => t.pc == 0x0202#16) = true := by decide

/-- T8.11: BCS -2 ($FE), taken: branch to itself. -/
theorem test_bcs_T8_11 : stepped { start with fC := true } [(0x0200, 0xB0), (0x0201, 0xFE)]
    (fun t => t.pc == 0x0200#16) = true := by decide

/-- T8.12: BCS, not taken. -/
theorem test_bcs_T8_12 : stepped { start with fC := false } [(0x0200, 0xB0), (0x0201, 0xFE)]
    (fun t => t.pc == 0x0202#16) = true := by decide

/-- T8.17: BNE +$10 at $FFF8, wraps past $FFFF. -/
theorem test_bne_T8_17 : stepped { start with pc := 0xFFF8#16, fZ := false } [(0xFFF8, 0xD0), (0xFFF9, 0x10)]
    (fun t => t.pc == 0x000A#16) = true := by decide

/-- T8.14: BNE, not taken. -/
theorem test_bne_T8_14 : stepped { start with fZ := true } [(0x0200, 0xD0), (0x0201, 0x05)]
    (fun t => t.pc == 0x0202#16) = true := by decide

/-- T8.19: BEQ +1 at $02FD, target in next page. -/
theorem test_beq_T8_19 : stepped { start with pc := 0x02FD#16, fZ := true } [(0x02FD, 0xF0), (0x02FE, 0x01)]
    (fun t => t.pc == 0x0300#16) = true := by decide

/-- T8.20: BEQ not taken at $FFFE, pc wraps. -/
theorem test_beq_T8_20 : stepped { start with pc := 0xFFFE#16, fZ := false } [(0xFFFE, 0xF0), (0xFFFF, 0x01)]
    (fun t => t.pc == 0x0000#16) = true := by decide

/-- T9.2: JMP ($30FF), page wrap. -/
theorem test_jmp_T9_2 : stepped start [(0x0200, 0x6C), (0x0201, 0xFF), (0x0202, 0x30), (0x3000, 0x40), (0x30FF, 0x80), (0x3100, 0x50)]
    (fun t => t.pc == 0x4080#16) = true := by decide

/-- T9.4: JMP ($00FF), wraps inside page 0. -/
theorem test_jmp_T9_4 : stepped start [(0x0200, 0x6C), (0x0201, 0xFF), (0x0202, 0x00), (0x0000, 0x80), (0x00FF, 0x00), (0x0100, 0x90)]
    (fun t => t.pc == 0x8000#16) = true := by decide

/-- T9.6: JSR $5597 with S = $00: stack wraps. -/
theorem test_jsr_T9_6 : stepped { start with sp := 0x00#8 } [(0x0200, 0x20), (0x0201, 0x97), (0x0202, 0x55)]
    (fun t => t.sp == 0xFE#8 && t.pc == 0x5597#16 && t.mem.read 0x0100#16 == 0x02#8 && t.mem.read 0x01FF#16 == 0x02#8) = true := by decide

/-- T9.7: JSR $0300 at $02FE: pushed address $0300. -/
theorem test_jsr_T9_7 : stepped { start with pc := 0x02FE#16 } [(0x02FE, 0x20), (0x02FF, 0x00), (0x0300, 0x03)]
    (fun t => t.sp == 0xFD#8 && t.pc == 0x0300#16 && t.mem.read 0x01FE#16 == 0x00#8 && t.mem.read 0x01FF#16 == 0x03#8) = true := by decide

/-- T9.10: RTS with stacked $FFFF: wraps to $0000. -/
theorem test_rts_T9_10 : stepped { start with sp := 0xFD#8 } [(0x0200, 0x60), (0x01FE, 0xFF), (0x01FF, 0xFF)]
    (fun t => t.sp == 0xFF#8 && t.pc == 0x0000#16) = true := by decide

/-- T9.11: RTS with S = $FF: stack wraps, reads $0100 then $0101. -/
theorem test_rts_T9_11 : stepped { start with sp := 0xFF#8 } [(0x0200, 0x60), (0x0100, 0x33), (0x0101, 0x44)]
    (fun t => t.sp == 0x01#8 && t.pc == 0x4434#16) = true := by decide

/-- T10.1: CLC. -/
theorem test_clc_T10_1 : stepped { start with fC := true } [(0x0200, 0x18)]
    (fun t => t.fC == false && t.pc == 0x0201#16) = true := by decide

/-- T10.2: SEC. -/
theorem test_sec_T10_2 : stepped { start with fC := false } [(0x0200, 0x38)]
    (fun t => t.fC == true && t.pc == 0x0201#16) = true := by decide

/-- T10.3: CLI. -/
theorem test_cli_T10_3 : stepped { start with fI := true } [(0x0200, 0x58)]
    (fun t => t.fI == false && t.pc == 0x0201#16) = true := by decide

/-- T10.4: SEI. -/
theorem test_sei_T10_4 : stepped { start with fI := false } [(0x0200, 0x78)]
    (fun t => t.fI == true && t.pc == 0x0201#16) = true := by decide

/-- T10.5: CLV. -/
theorem test_clv_T10_5 : stepped { start with fV := true } [(0x0200, 0xB8)]
    (fun t => t.fV == false && t.pc == 0x0201#16) = true := by decide

/-- T10.6: CLD. -/
theorem test_cld_T10_6 : stepped { start with fD := true } [(0x0200, 0xD8)]
    (fun t => t.fD == false && t.pc == 0x0201#16) = true := by decide

/-- T10.7: SED. -/
theorem test_sed_T10_7 : stepped { start with fD := false } [(0x0200, 0xF8)]
    (fun t => t.fD == true && t.pc == 0x0201#16) = true := by decide

/-- T11.1: TXS. -/
theorem test_txs_T11_1 : stepped { start with x := 0x00#8, sp := 0x80#8, fN := true } [(0x0200, 0x9A)]
    (fun t => t.sp == 0x00#8 && t.fN == true && t.fZ == false && t.pc == 0x0201#16) = true := by decide

/-- T11.3: TSX. -/
theorem test_tsx_T11_3 : stepped { start with sp := 0x00#8, x := 0x55#8 } [(0x0200, 0xBA)]
    (fun t => t.x == 0x00#8 && t.fN == false && t.fZ == true && t.pc == 0x0201#16) = true := by decide

/-- T11.4: PHA. -/
theorem test_pha_T11_4 : stepped { start with a := 0x42#8 } [(0x0200, 0x48)]
    (fun t => t.sp == 0xFE#8 && t.pc == 0x0201#16 && t.mem.read 0x01FF#16 == 0x42#8) = true := by decide

/-- T11.5: PHA with S = $00. -/
theorem test_pha_T11_5 : stepped { start with a := 0x42#8, sp := 0x00#8 } [(0x0200, 0x48)]
    (fun t => t.sp == 0xFF#8 && t.pc == 0x0201#16 && t.mem.read 0x0100#16 == 0x42#8) = true := by decide

/-- T11.6: PLA. -/
theorem test_pla_T11_6 : stepped { start with sp := 0xFE#8 } [(0x0200, 0x68), (0x01FF, 0x80)]
    (fun t => t.a == 0x80#8 && t.sp == 0xFF#8 && t.fN == true && t.fZ == false && t.pc == 0x0201#16) = true := by decide

/-- T11.7: PLA with S = $FF: wraps to $0100. -/
theorem test_pla_T11_7 : stepped { start with a := 0x11#8, sp := 0xFF#8 } [(0x0200, 0x68), (0x0100, 0x00)]
    (fun t => t.a == 0x00#8 && t.sp == 0x00#8 && t.fN == false && t.fZ == true && t.pc == 0x0201#16) = true := by decide

/-- T11.8: PHP. -/
theorem test_php_T11_8 : stepped { start with fI := true, fZ := true, fC := true } [(0x0200, 0x08)]
    (fun t => t.sp == 0xFE#8 && t.pc == 0x0201#16 && t.mem.read 0x01FF#16 == 0x37#8) = true := by decide

/-- T11.10: PHP, all flags 1: pushes $FF. -/
theorem test_php_T11_10 : stepped { start with fN := true, fV := true, fD := true, fI := true, fZ := true, fC := true } [(0x0200, 0x08)]
    (fun t => t.sp == 0xFE#8 && t.pc == 0x0201#16 && t.mem.read 0x01FF#16 == 0xFF#8) = true := by decide

/-- T11.11: PLP $C3. -/
theorem test_plp_T11_11 : stepped { start with sp := 0xFE#8 } [(0x0200, 0x28), (0x01FF, 0xC3)]
    (fun t => t.sp == 0xFF#8 && t.fN == true && t.fV == true && t.fD == false && t.fI == false && t.fZ == true && t.fC == true && t.pc == 0x0201#16) = true := by decide

/-- T11.14: PLP $30: same flags as $00. -/
theorem test_plp_T11_14 : stepped { start with sp := 0xFE#8, fN := true, fC := true } [(0x0200, 0x28), (0x01FF, 0x30)]
    (fun t => t.sp == 0xFF#8 && t.fN == false && t.fV == false && t.fD == false && t.fI == false && t.fZ == false && t.fC == false && t.pc == 0x0201#16) = true := by decide

/-- T12.2: BRK with I = 1, D = 1, N = 1. -/
theorem test_brk_T12_2 : stepped { start with fI := true, fD := true, fN := true } [(0x0200, 0x00), (0xFFFE, 0x34), (0xFFFF, 0x12)]
    (fun t => t.sp == 0xFC#8 && t.fD == true && t.fI == true && t.pc == 0x1234#16 && t.mem.read 0x01FD#16 == 0xBC#8 && t.mem.read 0x01FE#16 == 0x02#8 && t.mem.read 0x01FF#16 == 0x02#8) = true := by decide

/-- T12.3: BRK at $FFFF: return address wraps to $0001. -/
theorem test_brk_T12_3 : stepped { start with pc := 0xFFFF#16 } [(0xFFFF, 0x00), (0xFFFE, 0x00), (0xFFFF, 0x00)]
    (fun t => t.sp == 0xFC#8 && t.fI == true && t.pc == 0x0000#16 && t.mem.read 0x01FD#16 == 0x30#8 && t.mem.read 0x01FE#16 == 0x01#8 && t.mem.read 0x01FF#16 == 0x00#8) = true := by decide

/-- T12.5: RTI. -/
theorem test_rti_T12_5 : stepped { start with pc := 0x9000#16, sp := 0xFC#8, fI := true } [(0x9000, 0x40), (0x01FD, 0x31), (0x01FE, 0x02), (0x01FF, 0x02)]
    (fun t => t.sp == 0xFF#8 && t.fN == false && t.fV == false && t.fD == false && t.fI == false && t.fZ == false && t.fC == true && t.pc == 0x0202#16) = true := by decide

/-- T12.6: RTI pulling $FF and $1234. -/
theorem test_rti_T12_6 : stepped { start with pc := 0x9000#16, sp := 0xFC#8 } [(0x9000, 0x40), (0x01FD, 0xFF), (0x01FE, 0x34), (0x01FF, 0x12)]
    (fun t => t.sp == 0xFF#8 && t.fN == true && t.fV == true && t.fD == true && t.fI == true && t.fZ == true && t.fC == true && t.pc == 0x1234#16) = true := by decide

/-- T12.7: NOP. -/
theorem test_nop_T12_7 : stepped { start with a := 0x01#8, x := 0x02#8, y := 0x03#8, fN := true, fC := true } [(0x0200, 0xEA)]
    (fun t => t.a == 0x01#8 && t.x == 0x02#8 && t.y == 0x03#8 && t.sp == 0xFF#8 && t.fN == true && t.fV == false && t.fD == false && t.fI == false && t.fZ == false && t.fC == true && t.pc == 0x0201#16) = true := by decide

/-! ### Interrupts, reset, undefined op codes, placing an instruction -/

/-- The vectors of T13: NMI $A000, reset $E000, IRQ and BRK $9000. -/
def vectors : List (Nat × Nat) :=
  [(0xFFFA, 0x00), (0xFFFB, 0xA0), (0xFFFC, 0x00), (0xFFFD, 0xE0), (0xFFFE, 0x00), (0xFFFF, 0x90)]

/-- T13.1. -/
theorem test_irq_T13_1 :
    stepped { start with pc := 0x0203#16, irqLine := true, a := 0x11#8, fN := true, fC := true } vectors
      (fun t => t.mem.read 0x01FF#16 == 2#8 && t.mem.read 0x01FE#16 == 3#8 && t.mem.read 0x01FD#16 == 0xA1#8 &&
        t.sp == 0xFC#8 && t.fI && t.pc == 0x9000#16) = true := by decide

/-- T13.2: with I = I_before = 1 the IRQ waits and INX executes. -/
theorem test_irq_masked_T13_2 :
    stepped { start with pc := 0x0203#16, irqLine := true, fI := true, iBefore := true }
      ((0x0203, 0xE8) :: vectors) (fun t => t.x == 1#8 && t.pc == 0x0204#16) = true := by decide

/-- T13.4: NMI before IRQ. -/
theorem test_nmi_first_T13_4 :
    stepped { start with pc := 0x0203#16, nmiPending := true, irqLine := true } vectors
      (fun t => t.mem.read 0x01FD#16 == 0x20#8 && t.pc == 0xA000#16 && !t.nmiPending) = true := by decide

/-- T13.7: the stack wraps inside page 1. -/
theorem test_irq_wraps_T13_7 :
    stepped { start with pc := 0x1234#16, sp := 1#8, fV := true, fD := true, irqLine := true }
      [(0xFFFE, 0xCD), (0xFFFF, 0xAB)]
      (fun t => t.mem.read 0x0101#16 == 0x12#8 && t.mem.read 0x0100#16 == 0x34#8 &&
        t.mem.read 0x01FF#16 == 0x68#8 && t.sp == 0xFE#8 && t.fD && t.pc == 0xABCD#16) = true := by decide

/-- T13.9: reset wins and writes no memory. -/
theorem test_reset_T13_9 :
    stepped { start with resetReq := true, nmiPending := true, irqLine := true } vectors
      (fun t => t.fI && t.iBefore && !t.nmiPending && t.pc == 0xE000#16 && t.mem == (poke start vectors).mem) = true := by
  decide

/-- T13.5 and T13.6: where I and I_before differ both outcomes are admitted; each is one value of the free bit. -/
theorem test_irq_after_cli_T13_5 :
    let s : State := poke { start with pc := 0x0201#16, irqLine := true, iBefore := true } ((0x0201, 0xE8) :: vectors)
    (Config.freeBit 0 = true → s.recognise.1 = .irq) ∧ (Config.freeBit 0 = false → s.recognise.1 = .instruction) := by
  refine ⟨fun h => ?_, fun h => ?_⟩ <;>
  · show (if Config.freeBit 0 then Event.irq else Event.instruction) = _
    simp [h]

/-- T14.4: $02 at $0200 is the fault. -/
theorem test_illegal_T14_4 : step (poke start [(0x0200, 0x02)]) = .fault (.illegalOpcode 0x02#8 0x0200#16) := by rfl

/-- T14.9: an operand fetch wraps past $FFFF. -/
theorem test_fetch_wraps_T14_9 :
    stepped { start with pc := 0xFFFE#16 } [(0xFFFE, 0x4C), (0xFFFF, 0x00), (0x0000, 0x03)]
      (fun t => t.pc == 0x0300#16) = true := by decide

/-- The word $44A9 placed after reset runs as LDA #$44. -/
theorem test_placed_word_runs :
    (match step (State.reset.withFetchWord 16 0x44A9) with
      | .next t => t.a == 0x44#8 && t.pc == 0x0002#16
      | .fault _ => false
      | .refused _ => false) = true := by decide

/-! ### The platform's regions (R57, R69) -/

/-- A map with ROM at $8000, a device with side effects at $D000 to $D00F, a harmless one at $D800 to $D80F and
nothing at $E000 to $E00F. -/
def mapped : State :=
  { start with
    x := 0x0F#8, y := 0x10#8
    regions := [⟨0x8000, 0x1000, .rom⟩, ⟨0xD000, 0x10, .io⟩, ⟨0xD800, 0x10, .ioHarmless⟩, ⟨0xE000, 0x10, .unmapped⟩] }

/-- STA to a device is logged and changes no memory; STA to ROM is ignored (R57, entry 5). -/
theorem test_store_regions :
    (match exec (.staAbs 0xD00F#16) { mapped with a := 7#8 } with
      | .next t => t.devLog == [.write 0xD00F#16 7#8] && t.mem == mapped.mem
      | .fault _ => false
      | .refused _ => false) = true ∧
    (match exec (.staAbs 0x8000#16) { mapped with a := 7#8 } with
      | .next t => t.devLog == [] && t.mem == mapped.mem
      | .fault _ => false
      | .refused _ => false) = true := by decide

/-- LDA $CFF1,X with X = $0F reaches the device and is refused; so is LDA $D0FF,X, whose un-carried address
$D00E does (R69). -/
theorem test_indexed_device_refused :
    exec (.ldaAbx 0xCFF1#16) mapped = .refused (.deviceExtraAccess 0xD000#16) ∧
      exec (.ldaAbx 0xD0FF#16) mapped = .refused (.deviceExtraAccess 0xD10E#16) := ⟨rfl, rfl⟩

/-- INC of a register of a device with side effects is refused (R69). -/
theorem test_modify_device_refused :
    exec (.incAbs 0xD000#16) mapped = .refused (.deviceExtraAccess 0xD000#16) := rfl

/-- INC of a register of a harmless device runs: the device sees the read, then the write (R154, U7). -/
theorem test_modify_harmless_device :
    ∃ t, exec (.incAbs 0xD80F#16) mapped = .next t ∧ t.devLog =
      [.write 0xD80F#16 (Config.freeByte 0 + 1#8), .read 0xD80F#16 (Config.freeByte 0)] := ⟨_, rfl, rfl⟩

/-- Pages 0 and 1 stay RAM whatever the map says (R58). -/
theorem test_low_pages_ram :
    State.kindOf { start with regions := [⟨0, 65536, .io⟩] } 0x01FF#16 = .ram ∧
      State.kindOf { start with regions := [⟨0, 65536, .io⟩] } 0x0200#16 = .io := by decide

/-- BEQ from $D0F0 to $D102: the un-carried address $D002 is a device's, so the taken branch is refused (R69, entry
7); not taken, or to $D110, whose un-carried address $D010 is RAM, or beside a harmless device, it runs. -/
theorem test_branch_device :
    let s : State := { mapped with pc := 0xD0F0#16, fZ := true }
    exec (.beq 0x10#8) s = .refused (.deviceExtraAccess 0xD002#16) ∧
      (∃ t, exec (.beq 0x10#8) { s with fZ := false } = .next t ∧ t.pc = 0xD0F2#16) ∧
      (∃ t, exec (.beq 0x1E#8) s = .next t ∧ t.pc = 0xD110#16) ∧
      ∃ t, exec (.beq 0x10#8) { s with regions := [⟨0xD000, 0x10, .ioHarmless⟩] } = .next t ∧ t.pc = 0xD102#16 :=
  ⟨rfl, ⟨_, rfl, by decide⟩, ⟨_, rfl, by decide⟩, ⟨_, rfl, by decide⟩⟩

/-- The vector addresses are parameters (R5, U11): with VEC_IRQ at $C000, BRK goes to the word there. -/
theorem test_vector_parameter :
    stepped { start with vecIrq := 0xC000#16 } ((0x0200, 0x00) :: (0xC000, 0x34) :: (0xC001, 0x12) :: vectors)
      (fun t => t.pc == 0x1234#16) = true := by decide

/-! ### Cycles, assembler, and the optional decimal algorithm -/

/-- LDA $80FF,X with X = $0F crosses a page: 5 cycles, else 4; ASL $4400,X always 7; a taken BNE over a page end
4 (R264, R265, R170). -/
theorem test_cycles :
    cycles (.ldaAbx 0x80FF#16) mapped = 5 ∧ cycles (.ldaAbx 0x80F0#16) mapped = 4 ∧
      cycles (.aslAbx 0x4400#16) mapped = 7 ∧ cycles (.bne 0x01#8) { start with pc := 0x02FD#16 } = 4 ∧
      cycles (.bne 0x01#8) { start with fZ := true } = 2 := by decide

/-- How instructions are written (R103), and the choice between the Zero Page and Absolute forms (R106). -/
theorem test_assembler :
    asmText (Instr.raw (.ldaIzx 0x44#8)) = "LDA ($44,X)" ∧ asmText (Instr.raw (.aslAcc)) = "ASL A" ∧
      asmText (Instr.raw (.jmpInd 0x5597#16)) = "JMP ($5597)" ∧
      chooseForm .lda .aby 0x0044#16 = ⟨.lda, .aby, .word 0x0044#16⟩ ∧
      chooseForm .lda .abs 0x0044#16 = ⟨.lda, .zp, .byte 0x44#8⟩ := by decide

/-- Branch displacements at both ends of the range and one past each end, and across $0000 (R96, R108). -/
theorem test_branch_displacement :
    branchDisplacement 0x0200#16 0x0281#16 = some 0x7F#8 ∧ branchDisplacement 0x0200#16 0x0182#16 = some 0x80#8 ∧
      branchDisplacement 0x0200#16 0x0282#16 = none ∧ branchDisplacement 0x0200#16 0x0181#16 = none ∧
      branchDisplacement 0x0004#16 0xFF86#16 = some 0x80#8 := by decide

/-! ### Witnesses: for each obligation with hypotheses, states and operands that meet them together -/

namespace Witness

open Sys2Proof.Claims

theorem undefinedOpcodeBytes : (0x02#8 : Byte).toNat ∈ undefinedOpcodes ∧ (0xFF#8 : Byte).toNat % 16 ∈ [0x3, 0x7, 0xB, 0xF] := by
  decide

theorem encodeOfDecode : decode [0x4C#8, 0x97#8, 0x55#8, 0x00#8] = .ok (.jmpAbs 0x5597#16, [0x00#8]) := by decide

/-- An undefined op code at $FFFF, the last address. -/
theorem undefinedOpcodeStopsTheStep :
    let s := poke { start with pc := 0xFFFF#16 } [(0xFFFF, 0xFF)]
    s.sample.recognise = (.instruction, s) ∧ (s.readByte s.pc).1.toNat ∈ undefinedOpcodes ∧ Backed s s.pc ∧
      (s.mem.read s.pc).toNat ∈ undefinedOpcodes :=
  ⟨by decide, by decide, .inl (by decide), by decide⟩

/-- JMP $0300 at $FFFE, whose last operand byte lies at $0000. -/
theorem stepRunsTheDecodedInstruction :
    let s := poke { start with pc := 0xFFFE#16 } [(0xFFFE, 0x4C), (0xFFFF, 0x00), (0x0000, 0x03)]
    s.sample.recognise = (.instruction, s) ∧
      decode [s.mem.read s.pc, s.mem.read (s.pc + 1#16), s.mem.read (s.pc + 2#16)] = .ok (.jmpAbs 0x0300#16, []) ∧
      WellFormed (.jmpAbs 0x0300#16) = true ∧
      ∀ k < Instr.length (.jmpAbs 0x0300#16), Backed s (s.pc + BitVec.ofNat 16 k) :=
  ⟨by decide, by decide, by decide, fun k hk => by
    have : k = 0 ∨ k = 1 ∨ k = 2 := by
      have : k < 3 := hk
      omega
    rcases this with rfl | rfl | rfl <;> exact .inl (by decide)⟩

/-- The same with a one-byte instruction in the last byte of ROM. -/
theorem stepRunsTheDecodedInstruction_rom :
    let s := poke { mapped with pc := 0x8FFF#16 } [(0x8FFF, 0xEA)]
    s.sample.recognise = (.instruction, s) ∧
      decode [s.mem.read s.pc, s.mem.read (s.pc + 1#16), s.mem.read (s.pc + 2#16)] = .ok (.nop, [0x00#8, 0x00#8]) ∧
      Backed s s.pc :=
  ⟨by decide, by decide, .inr (by decide)⟩

/-- LDA # in the last byte of RAM below a device: its operand byte is what the device gives. -/
theorem stepRunsTheDecodedInstruction_io :
    let s := poke { mapped with pc := 0xCFFF#16 } [(0xCFFF, 0xA9)]
    s.sample.recognise = (.instruction, s) ∧ s.kindOf 0xD000#16 = .io ∧
      decode (readFrom (Instr.length (.ldaImm (Config.freeByte 0))) s.pc s).1 = .ok (.ldaImm (Config.freeByte 0), []) :=
  ⟨by decide, by decide, rfl⟩

/-- An op code fetched from a device and one from an unmapped address. -/
theorem stepRunsTheDecodedInstruction_free :
    (let s : State := { mapped with pc := 0xD00F#16 }
     s.sample.recognise = (.instruction, s) ∧ s.kindOf s.pc = .io) ∧
    (let s : State := { mapped with pc := 0xE000#16 }
     s.sample.recognise = (.instruction, s) ∧ s.kindOf s.pc = .unmapped) := by decide

theorem placedInstructionRuns :
    decodeTableWord 24 0x4400AD = some (.ldaAbs 0x4400#16) ∧ decodeTableWord 8 0x69 = some (.adcImm 0x00#8) := by decide

/-- Every branch taken, within a page and across one, with a device elsewhere. -/
def taking : List State := [{ mapped with fN := true, fV := true, fC := true, fZ := true }, mapped]

theorem branchesTaken :
    ∀ d : Byte, (taking.flatMap (fun s => (branches d s).filter (fun p => p.2))).map (fun p => p.1) =
      [.bmi d, .bvs d, .bcs d, .beq d, .bpl d, .bvc d, .bcc d, .bne d] := fun _ => rfl

/-- Labels at both ends of the range, neither of them across a device. -/
theorem branchDisplacementReachesTheLabel :
    branchDisplacement 0x0200#16 0x0281#16 = some 0x7F#8 ∧ branchDisplacement 0x0200#16 0x0182#16 = some 0x80#8 ∧
      (∀ s ∈ taking, s.pc = 0x0200#16 ∧ ¬ crossesToDevice s 0x0281#16 ∧ ¬ crossesToDevice s 0x0182#16) := by
  refine ⟨by decide, by decide, fun s hs => ?_⟩
  simp only [taking, List.mem_cons, List.not_mem_nil, or_false] at hs
  rcases hs with rfl | rfl <;> refine ⟨rfl, ?_, ?_⟩ <;> unfold crossesToDevice <;> decide

/-- Every kind of region at the first and last address of its record, and RAM on both sides of the device. -/
theorem accessByRegion :
    Backed mapped 0x01FF#16 ∧ Backed mapped 0x8000#16 ∧ mapped.kindOf 0x8FFF#16 = .rom ∧
      mapped.kindOf 0xD000#16 = .io ∧ mapped.kindOf 0xD00F#16 = .io ∧
      mapped.kindOf 0xD800#16 = .ioHarmless ∧ mapped.kindOf 0xD80F#16 = .ioHarmless ∧
      mapped.kindOf 0xE000#16 = .unmapped ∧ mapped.kindOf 0xE00F#16 = .unmapped ∧
      mapped.kindOf 0xCFFF#16 = .ram ∧ mapped.kindOf 0xD010#16 = .ram :=
  ⟨.inl (by decide), .inr (by decide), by decide, by decide, by decide, by decide, by decide, by decide, by decide, by decide, by decide⟩

/-- STX $4400 and then LDY Absolute,X from $4400 itself and from the last byte of ROM. -/
theorem loadReturnsTheLatestStore :
    (∃ t : State, exec (.stxAbs 0x4400#16) mapped = .next t ∧
      (MemForm.abx 0x43F1#16).refuses t = false ∧ (MemForm.abx 0x43F1#16).ea t = 0x4400#16 ∧
      (MemForm.abx 0x8FF0#16).refuses t = false ∧ (MemForm.abx 0x8FF0#16).ea t = 0x8FFF#16) ∧
    mapped.kindOf 0x4400#16 = .ram ∧ Backed mapped 0x8FFF#16 ∧
    Instr.memForm (.stxAbs 0x4400#16) = some (.abs 0x4400#16) ∧
    Instr.memForm (.ldyAbx 0x43F1#16) = some (.abx 0x43F1#16) ∧
    Instr.mnemonic (.stxAbs 0x4400#16) ∈ [.sta, .stx, .sty] ∧ Instr.mnemonic (.ldyAbx 0x43F1#16) ∈ [.lda, .ldx, .ldy] :=
  ⟨⟨_, rfl, by decide, by decide, by decide, by decide⟩, by decide, .inr (by decide), rfl, rfl, by decide, by decide⟩

/-- Every form of a load, store, arithmetic, compare or logic instruction that is not refused on a map with a
device: indexed forms that end on the byte below it, plain forms on the device itself. -/
theorem formsNotRefused :
    [MemForm.zp 0xFF#8, .zpx 0xFF#8, .zpy 0xFF#8, .abs 0xD000#16, .abx 0xCFF0#16, .aby 0xCFEF#16, .izx 0x44#8,
      .izy 0x44#8].map (fun f => f.refuses mapped) = List.replicate 8 false := by decide

/-- Every form of a read-modify-write that is not refused there. -/
theorem formsNotHittingDevices :
    [MemForm.zp 0xFF#8, .zpx 0xFF#8, .abs 0xCFFF#16, .abx 0xCFF0#16].map (fun f => f.hitsDevice mapped) =
      List.replicate 4 false := by decide

/-- Three instructions that R69 refuses and one that it does not. -/
theorem refusedExactlyOnDevices :
    (∃ r, exec (.ldaAbx 0xCFF1#16) mapped = .refused r) ∧ (∃ r, exec (.jmpInd 0xCFFF#16) mapped = .refused r) = False ∧
      (∃ r, exec (.jmpInd 0xD00F#16) mapped = .refused r) ∧
      ∃ r, exec (.bne 0x1D#8) { mapped with pc := 0xD0F0#16 } = .refused r := by
  refine ⟨⟨_, rfl⟩, ?_, ⟨_, rfl⟩, ⟨_, rfl⟩⟩
  simp only [eq_iff_iff, iff_false, not_exists]
  intro r h
  cases h

/-- Binary mode, with ADC and SBC of an immediate byte and of a byte of memory. -/
theorem binaryArithmetic :
    start.fD = false ∧ (MemForm.abs 0x4400#16).refuses start = false ∧
      operandOf (.adcImm 0x80#8) start = some 0x80#8 ∧ (∃ t : State, exec (.adcImm 0x80#8) start = .next t) ∧
      operandOf (.sbcImm 0x80#8) start = some 0x80#8 ∧ (∃ t : State, exec (.sbcImm 0x80#8) start = .next t) ∧
      operandOf (.adcIzy 0xFF#8) start = some 0x00#8 ∧ (∃ t : State, exec (.adcIzy 0xFF#8) start = .next t) ∧
      operandOf (.sbcAbx 0x4400#16) start = some 0x00#8 ∧ ∃ t : State, exec (.sbcAbx 0x4400#16) start = .next t :=
  ⟨rfl, rfl, rfl, ⟨_, rfl⟩, rfl, ⟨_, rfl⟩, by decide, ⟨_, rfl⟩, by decide, ⟨_, rfl⟩⟩

/-- Decimal mode with packed BCD operands at the ends of their range, and with a byte that is not packed BCD. -/
theorem decimalArithmetic :
    let s : State := poke { start with fD := true, a := 0x99#8, fC := true } [(0x4400, 0x99)]
    s.fD = true ∧ bcdValid s.a = true ∧ bcdValid 0x99#8 = true ∧ bcdValid 0x00#8 = true ∧
      bcdValid 0x9A#8 = false ∧ bcdValid 0xA0#8 = false ∧ (MemForm.abs 0x4400#16).refuses s = false ∧
      operandOf (.adcImm 0x99#8) s = some 0x99#8 ∧ (∃ t : State, exec (.adcImm 0x99#8) s = .next t) ∧
      operandOf (.sbcAbs 0x4400#16) s = some 0x99#8 ∧ ∃ t : State, exec (.sbcAbs 0x4400#16) s = .next t :=
  ⟨rfl, by decide, by decide, by decide, by decide, by decide, rfl, rfl, ⟨_, rfl⟩, by decide, ⟨_, rfl⟩⟩

/-- A branch to another page that passes no device, although one lies on the page of the target. -/
theorem branchResults_crossing :
    let s : State := { mapped with pc := 0xCFF0#16 }
    ¬ crossesToDevice s 0xD00F#16 ∧ hi (0xD00F#16 : Word) ≠ hi (s.pc + 2#16) := by
  unfold crossesToDevice; decide

/-- Each flag a branch reads, 0 and 1. -/
theorem branchResults :
    let set : State := { start with fN := true, fV := true, fC := true, fZ := true }
    start.fN = false ∧ start.fV = false ∧ start.fC = false ∧ start.fZ = false ∧
      set.fN = true ∧ set.fV = true ∧ set.fC = true ∧ set.fZ = true := by decide

/-- A vector at a page end just below the device: its high byte comes from the start of its page. -/
theorem jumpResults :
    mapped.kindOf 0xCFFF#16 ≠ .io ∧ mapped.kindOf (BitVec.ofNat 16 (0xCFFF / 256 * 256 + 0xD000 % 256)) ≠ .io := by
  decide

/-- An address off the stack cells where S wraps. -/
theorem stackFrames :
    let s : State := { start with sp := 0x00#8 }
    (0x01FD#16 : Word) ≠ stackCell s.sp ∧ (0x01FD#16 : Word) ≠ stackCell (s.sp - 1#8) ∧
      (0x01FD#16 : Word) ≠ stackCell (s.sp - 2#8) := by decide

theorem nmosDecimalRefines : bcdValid 0x99#8 = true ∧ bcdValid 0x00#8 = true := by decide

theorem statusSurvivesTheStack : ∃ t : State, exec .php start = .next t := ⟨_, rfl⟩

/-- The sampled state of each clause of the boundary's order. -/
theorem boundaryOrder :
    let by' (p : Inputs) (i b : Bool) : State := ({ start with inputs := [p], fI := i, iBefore := b } : State).sample
    (by' ⟨true, true, true⟩ false false).resetReq = true ∧
      ((by' ⟨true, true, false⟩ true true).resetReq = false ∧ (by' ⟨true, true, false⟩ true true).nmiPending = true) ∧
      ((by' ⟨true, false, false⟩ false false).nmiPending = false ∧
        (by' ⟨true, false, false⟩ false false).irqLine = true ∧ (by' ⟨true, false, false⟩ false false).fI = false ∧
        (by' ⟨true, false, false⟩ false false).iBefore = false) ∧
      ((by' ⟨true, false, false⟩ true true).irqLine = true ∧ (by' ⟨true, false, false⟩ true true).fI = true ∧
        (by' ⟨true, false, false⟩ true true).iBefore = true) ∧
      (by' ⟨true, false, false⟩ false true).fI ≠ (by' ⟨true, false, false⟩ false true).iBefore ∧
      (by' ⟨false, false, false⟩ false false).irqLine = false := by decide

theorem sampledInputs :
    start.inputs = [] ∧ ({ start with inputs := [⟨true, true, false⟩] } : State).inputs = [⟨true, true, false⟩] := by
  decide

/-- Instructions that change A, X, Y, S, PC beyond their length, and memory in each of the ways the matrix lists;
the cell each changes is the one listed. -/
theorem registerWriteMatrix :
    (∃ t, exec (.ldaImm 5#8) start = .next t ∧ t.a ≠ start.a) ∧
      (∃ t, exec .inx start = .next t ∧ t.x ≠ start.x) ∧
      (∃ t, exec .dey start = .next t ∧ t.y ≠ start.y) ∧
      (Instr.mnemonic .pha ≠ .txs ∧ ∃ t, exec .pha start = .next t) ∧
      (∃ t, exec (.jmpAbs 0x5597#16) start = .next t ∧ t.pc ≠ start.pc + BitVec.ofNat 16 3) ∧
      (∃ t, exec (.incZp 0xFF#8) start = .next t ∧ t.mem.read 0x00FF#16 ≠ start.mem.read 0x00FF#16) ∧
      (∃ t, exec .php start = .next t ∧ t.mem.read 0x01FF#16 ≠ start.mem.read 0x01FF#16) ∧
      (∃ t, exec (.jsr 0x5597#16) start = .next t ∧ t.mem.read 0x01FE#16 ≠ start.mem.read 0x01FE#16) ∧
      (∃ t, exec .brk start = .next t ∧ t.mem.read 0x01FD#16 ≠ start.mem.read 0x01FD#16) ∧
      start.irqEntry.mem.read 0x01FD#16 ≠ start.mem.read 0x01FD#16 :=
  ⟨⟨_, rfl, by decide⟩, ⟨_, rfl, by decide⟩, ⟨_, rfl, by decide⟩, ⟨by decide, _, rfl⟩, ⟨_, rfl, by decide⟩,
    ⟨_, rfl, by decide⟩, ⟨_, rfl, by decide⟩, ⟨_, rfl, by decide⟩, ⟨_, rfl, by decide⟩, by decide⟩

/-- Instructions that change N, Z, V, D, I and C. -/
theorem flagWriteMatrix :
    (∃ t, exec (.ldaImm 0x80#8) start = .next t ∧ t.fN ≠ start.fN) ∧
      (∃ t, exec (.ldaImm 0x00#8) start = .next t ∧ t.fZ ≠ start.fZ) ∧
      (∃ t, exec .clv { start with fV := true } = .next t ∧ t.fV ≠ true) ∧
      (∃ t, exec .sed start = .next t ∧ t.fD ≠ start.fD) ∧
      (∃ t, exec .sei start = .next t ∧ t.fI ≠ start.fI) ∧
      (∃ t, exec .sec start = .next t ∧ t.fC ≠ start.fC) :=
  ⟨⟨_, rfl, by decide⟩, ⟨_, rfl, by decide⟩, ⟨_, rfl, by decide⟩, ⟨_, rfl, by decide⟩, ⟨_, rfl, by decide⟩,
    ⟨_, rfl, by decide⟩⟩

theorem maskingLag :
    (∃ t, exec .cli { start with fI := true } = .next t ∧ Instr.mnemonic .cli ∉ [.rti, .brk]) ∧
      ∃ t, exec .rti start = .next t ∧ Instr.mnemonic .rti ∉ [.cli, .sei, .plp] :=
  ⟨⟨_, rfl, by decide⟩, ⟨_, rfl, by decide⟩⟩

/-- A map with ROM, a hole, and no device but a harmless one. -/
theorem noDevices : NoDevices { start with regions := [⟨0x8000, 0x1000, .rom⟩, ⟨0xD800, 16, .ioHarmless⟩, ⟨0xE000, 0x10, .unmapped⟩] } := by
  intro r hr
  simp only [List.mem_cons, List.not_mem_nil, or_false] at hr
  rcases hr with rfl | rfl | rfl <;> decide

theorem decimalFlagReadByAddAndSubtractOnly :
    Instr.mnemonic (.cmpImm 0x10#8) ∉ [.adc, .sbc, .php, .brk] ∧
      (∃ t, exec .plp start = .next t) ∧ ∃ u, exec .plp { start with fD := true } = .next u :=
  ⟨by decide, ⟨_, rfl⟩, ⟨_, rfl⟩⟩

/-- A store that lists one more cell, at the last address, after a step. -/
def storing : State := poke { mapped with a := 7#8 } [(0x0200, 0x8D), (0x0201, 0xFF), (0x0202, 0xFF), (0x8FFF, 0x55)]

theorem stepKeepsMemoryCanonical :
    MemoryCanonical storing ∧ ∃ t, step storing = .next t ∧ t.mem.read 0xFFFF#16 = 7#8 :=
  ⟨by unfold MemoryCanonical; decide, _, rfl, by decide⟩

theorem stepKeepsThePlatform : (∃ t, step storing = .next t) ∧ storing.kindOf 0x8FFF#16 ≠ .ram := ⟨⟨_, rfl⟩, by decide⟩

/-- A run of one step on a map with ROM. -/
theorem romImageSurvivesEveryRun : (∃ t, Reaches storing t ∧ t.mem ≠ storing.mem) ∧ storing.kindOf 0x8FFF#16 = .rom :=
  ⟨⟨_, .step rfl (.here _), by decide⟩, by decide⟩

end Witness
end

section
/-! What a fetch reads and answers, in the decoder's own terms: the bytes read one after another at PC decode to
the instruction it answers. From it the step at a boundary that brings no event; and the machine after reset. -/

namespace Sys2Proof

/-! ### What an op code's shape makes of an operand (R81, R98) -/

/-- The instruction a shape makes of an operand of the shape's own size. -/
def Shape.apply : Shape → Field → Option Instr
  | .one i, .none => some i
  | .two f, .byte b => some (f b)
  | .three f, .word w => some (f w)
  | _, _ => none

@[simp] theorem Shape.apply_one_eq_some (j i : Instr) (fld : Field) :
    (Shape.one j).apply fld = some i ↔ fld = .none ∧ j = i := by
  cases fld <;> simp [Shape.apply]

@[simp] theorem Shape.apply_two_eq_some (f : Byte → Instr) (i : Instr) (fld : Field) :
    (Shape.two f).apply fld = some i ↔ ∃ b, fld = .byte b ∧ f b = i := by
  cases fld <;> simp [Shape.apply]

@[simp] theorem Shape.apply_three_eq_some (f : Word → Instr) (i : Instr) (fld : Field) :
    (Shape.three f).apply fld = some i ↔ ∃ w, fld = .word w ∧ f w = i := by
  cases fld <;> simp [Shape.apply]

/-- The op code byte, with the operand after it, stands for the instruction. -/
def Denotes (opc : Byte) (fld : Field) (i : Instr) : Prop :=
  ∃ sh, decodeOpcode opc = some sh ∧ sh.apply fld = some i

/-- Every instruction of the shape carries the operand the shape was given. -/
def Shape.KeepsOperand : Shape → Prop
  | .one i => i.operand = .none
  | .two f => ∀ b, (f b).operand = .byte b
  | .three f => ∀ w, (f w).operand = .word w

/-- Each row of the opcode map has the shape of the operands of the instruction it names. -/
theorem opcodeTable_keepsOperand : ∀ p ∈ opcodeTable, p.2.KeepsOperand := by
  -- one goal per row; the operand of the row's constructor is read off its table by computation
  rw [← List.forall_iff_forall_mem]
  repeat' (first | apply And.intro | exact fun _ => rfl | rfl)

theorem Shape.KeepsOperand.operand_eq {sh : Shape} (h : sh.KeepsOperand) {fld : Field} {i : Instr}
    (hi : sh.apply fld = some i) : i.operand = fld := by
  cases sh with
  | one j => obtain ⟨rfl, rfl⟩ := (Shape.apply_one_eq_some ..).1 hi; exact h
  | two f => obtain ⟨b, rfl, rfl⟩ := (Shape.apply_two_eq_some ..).1 hi; exact h b
  | three f => obtain ⟨w, rfl, rfl⟩ := (Shape.apply_three_eq_some ..).1 hi; exact h w

/-- The operand an op code takes for an instruction is the instruction's own. -/
theorem Denotes.operand_eq {opc : Byte} {fld : Field} {i : Instr} (h : Denotes opc fld i) : i.operand = fld := by
  obtain ⟨sh, hsh, hi⟩ := h
  obtain ⟨l₁, l₂, hl, -⟩ := List.lookup_eq_some_iff.1 hsh
  have hrow : sh.KeepsOperand := opcodeTable_keepsOperand (opc.toNat, sh) (by simp [hl])
  exact hrow.operand_eq hi

/-- Once the op code's shape is known, a claim about some operand is one about the instruction's own. -/
theorem exists_apply_iff_denotes {opc : Byte} {sh : Shape} (hsh : decodeOpcode opc = some sh) (i : Instr)
    (P : Field → Prop) :
    (∃ fld, sh.apply fld = some i ∧ P fld) ↔ Denotes opc i.operand i ∧ P i.operand := by
  constructor
  · rintro ⟨fld, hi, hP⟩
    have hd : Denotes opc fld i := ⟨sh, hsh, hi⟩
    obtain rfl := hd.operand_eq
    exact ⟨hd, hP⟩
  · rintro ⟨⟨sh', hsh', hi⟩, hP⟩
    obtain rfl : sh = sh' := Option.some.inj (hsh.symm.trans hsh')
    exact ⟨i.operand, hi, hP⟩

/-- The opcode map leaves out exactly the 105 undefined op codes (R99). -/
theorem decodeOpcode_eq_none_iff (opc : Byte) :
    decodeOpcode opc = none ↔ opc.toNat ∈ Claims.undefinedOpcodes := by
  -- a check of the 256 bytes
  have every : ∀ b : Byte, (decodeOpcode b).isNone = decide (b.toNat ∈ Claims.undefinedOpcodes) := by
    decide +kernel
  rw [← Option.isNone_iff_eq_none, every, decide_eq_true_iff]

/-! ### Operand bytes and lengths (R81, R82) -/

/-- The two bytes of a word's operand, low byte first, are the word (R81, R83). -/
theorem eq_lo_and_eq_hi_and_iff (l h : Byte) (w : Word) (P : Prop) :
    (l = lo w ∧ h = hi w ∧ P) ↔ w = join h l ∧ P := by
  constructor
  · rintro ⟨rfl, rfl, hP⟩; exact ⟨(join_hi_lo w).symm, hP⟩
  · rintro ⟨rfl, hP⟩; exact ⟨(lo_join h l).symm, (hi_join h l).symm, hP⟩

@[simp] theorem Field.length_bytes (fld : Field) : fld.bytes.length = fld.size := by cases fld <;> rfl

/-- An instruction is its op code and its operand. -/
theorem Instr.length_eq (i : Instr) : i.length = i.operand.size + 1 := by
  have hlen := (Laws.EncodesAtLength.all i).2
  simpa [encode] using hlen.symm

/-! ### The decoder -/

/-- Bytes decode to an instruction and a rest exactly when they are an op code that stands for it, its operand's
bytes, and the rest. -/
theorem decode_cons_eq_ok_iff (opc : Byte) (bytes rest : List Byte) (i : Instr) :
    decode (opc :: bytes) = .ok (i, rest) ↔ Denotes opc i.operand i ∧ bytes = i.operand.bytes ++ rest := by
  cases hsh : decodeOpcode opc with
  | none => simp [decode, Denotes, hsh]
  | some sh =>
    rw [← exists_apply_iff_denotes hsh i (fun fld => bytes = fld.bytes ++ rest)]
    cases sh with
    | one j => simp [decode, hsh, Field.bytes]
    | two f => cases bytes <;> simp [decode, hsh, Field.bytes]
    | three f =>
      match bytes with
      | [] => simp [decode, hsh, Field.bytes]
      | [_] => simp [decode, hsh, Field.bytes]
      | l :: h :: bytes => simp [decode, hsh, Field.bytes, eq_lo_and_eq_hi_and_iff]

/-- As many bytes as a decoded instruction is long decode to it alone. -/
theorem decode_take_length {bytes rest : List Byte} {i : Instr} (h : decode bytes = .ok (i, rest)) :
    decode (bytes.take i.length) = .ok (i, []) := by
  cases bytes with
  | nil => simp [decode] at h
  | cons opc bytes =>
    obtain ⟨hd, rfl⟩ := (decode_cons_eq_ok_iff ..).1 h
    rw [Instr.length_eq, List.take_succ_cons, ← Field.length_bytes, List.take_left, decode_cons_eq_ok_iff]
    exact ⟨hd, (List.append_nil _).symm⟩

namespace Machine

open Claims Safety

/-! ### The fetch (R70, R83, R84) -/

/-- A fetch answers an instruction exactly when the op code read at PC stands for it and the bytes read after it
are its operand's. -/
theorem State.fetch_eq_ok_iff (s t : State) (i : Instr) :
    s.fetch = .ok (i, t) ↔ Denotes (s.readByte s.pc).1 i.operand i ∧
      readFrom i.operand.size (s.pc + 1#16) (s.readByte s.pc).2 = (i.operand.bytes, t) := by
  cases hsh : decodeOpcode (s.readByte s.pc).1 with
  | none => simp [State.fetch, Denotes, hsh]
  | some sh =>
    rw [← exists_apply_iff_denotes hsh i
      (fun fld => readFrom fld.size (s.pc + 1#16) (s.readByte s.pc).2 = (fld.bytes, t))]
    cases sh with
    | one j => simp [State.fetch, hsh, Field.bytes, Field.size, readFrom]
    | two f => simp [State.fetch, hsh, Field.bytes, Field.size, readFrom]
    | three f =>
      simp [State.fetch, hsh, Field.bytes, Field.size, readFrom, and_assoc, eq_lo_and_eq_hi_and_iff,
        BitVec.add_assoc]

/-- A fetch answers the op code read at PC alone exactly when it is undefined (R99). -/
theorem State.fetch_eq_error_iff (s : State) (opc : Byte) :
    s.fetch = .error opc ↔ (s.readByte s.pc).1 = opc ∧ decodeOpcode opc = none := by
  constructor
  · intro h
    cases hsh : decodeOpcode (s.readByte s.pc).1 with
    | none =>
      obtain rfl : (s.readByte s.pc).1 = opc := by simpa [State.fetch, hsh] using h
      exact ⟨rfl, hsh⟩
    | some sh => cases sh <;> simp [State.fetch, hsh] at h
  · rintro ⟨rfl, hnone⟩
    simp [State.fetch, hnone]

/-- A fetch answers an instruction exactly when the bytes read one after another at PC, as many as it is long,
decode to it; what the reads leave of the state is what the fetch leaves. -/
theorem State.fetch_eq_ok_iff_decode (s t : State) (i : Instr) :
    s.fetch = .ok (i, t) ↔
      decode (readFrom i.length s.pc s).1 = .ok (i, []) ∧ (readFrom i.length s.pc s).2 = t := by
  rw [State.fetch_eq_ok_iff, Instr.length_eq, readFrom, decode_cons_eq_ok_iff, List.append_nil, Prod.ext_iff,
    and_assoc]

/-- Bytes read in RAM and ROM are those memory holds, and the reads change nothing. -/
theorem readFrom_backed {s : State} (n : Nat) (a : Word)
    (h : ∀ k < n, Backed s (a + BitVec.ofNat 16 k)) :
    readFrom n a s = ((List.range n).map fun k => s.mem.read (a + BitVec.ofNat 16 k), s) := by
  induction n generalizing a with
  | zero => rfl
  | succ n ih =>
    have hstep : ∀ k, a + 1#16 + BitVec.ofNat 16 k = a + BitVec.ofNat 16 (k + 1) := by
      intro k; rw [BitVec.add_assoc, BitVec.add_comm 1#16, BitVec.ofNat_add]
    have hhead : s.readByte a = (s.mem.read a, s) := State.readByte_backed (by simpa [Backed] using h 0 (by omega))
    have htail := ih (a + 1#16) fun k hk => by rw [hstep]; exact h (k + 1) (by omega)
    simp only [hstep] at htail
    simp [readFrom, hhead, htail, List.range_succ_eq_map, Function.comp_def]

/-! ### The step at a boundary that brings no event (R11) -/

/-- An instruction that the bytes read at PC decode to is what the step executes. -/
theorem step_eq_exec_of_decode {s u : State} (h : s.sample.recognise = (.instruction, u)) {i : Instr}
    (hi : decode (readFrom i.length u.pc u).1 = .ok (i, [])) :
    step s = exec i (readFrom i.length u.pc u).2 := by
  have hfetch := (u.fetch_eq_ok_iff_decode _ i).2 ⟨hi, rfl⟩
  rw [step_of_instruction h, runInstruction, hfetch]

/-- In RAM and ROM the bytes read at PC decode to what the bytes of memory there decode to. -/
theorem decode_readFrom_of_backed {u : State} {i : Instr} {rest : List Byte}
    (hdec : decode [u.mem.read u.pc, u.mem.read (u.pc + 1#16), u.mem.read (u.pc + 2#16)] = .ok (i, rest))
    (hb : ∀ k < i.length, Backed u (u.pc + BitVec.ofNat 16 k)) :
    decode (readFrom i.length u.pc u).1 = .ok (i, []) := by
  have hlen : i.length ≤ 3 := by rw [Instr.length_eq]; cases i.operand <;> simp [Field.size]
  have hbytes : (List.range i.length).map (fun k => u.mem.read (u.pc + BitVec.ofNat 16 k)) =
      [u.mem.read u.pc, u.mem.read (u.pc + 1#16), u.mem.read (u.pc + 2#16)].take i.length := by
    interval_cases i.length <;> simp [List.range_succ]
  rw [readFrom_backed _ _ hb, hbytes]
  exact decode_take_length hdec

/-- Settles O6. The clause about RAM and ROM is a case of the clause about any region; that one of the last two
holds is the case split on what the fetch answers. -/
theorem stepRunsTheDecodedInstruction : Obligations.StepRunsTheDecodedInstruction := by
  intro s u h
  refine ⟨fun i rest hdec _ hb => ?_, fun i hi => step_eq_exec_of_decode h hi, ?_⟩
  · simpa [readFrom_backed _ _ hb] using step_eq_exec_of_decode h (decode_readFrom_of_backed hdec hb)
  · cases hf : u.fetch with
    | ok p => exact .inl ⟨p.1, ((u.fetch_eq_ok_iff_decode p.2 p.1).1 hf).1⟩
    | error opc =>
      obtain ⟨rfl, hnone⟩ := (u.fetch_eq_error_iff opc).1 hf
      exact .inr ⟨(decodeOpcode_eq_none_iff _).1 hnone, by rw [step_of_instruction h, runInstruction, hf]⟩

/-! ### The machine after reset (R40) -/

/-- A word read in RAM and ROM is the two bytes memory holds, low byte first (R53), and nothing else. -/
theorem State.readWord_backed {s : State} {a : Word} (h₀ : Backed s a) (h₁ : Backed s (a + 1#16)) :
    s.readWord a = (join (s.mem.read (a + 1#16)) (s.mem.read a), s) := by
  simp [State.readWord, State.readByte_backed h₀, State.readByte_backed h₁]

/-- The map is empty after reset: every address is RAM. -/
theorem State.reset_backed (a : Word) : Backed State.reset a :=
  .inl (by simp [State.kindOf, State.reset, mapKind])

/-- Settles O46. The vector lies in RAM, so the word that `State.reset_pc` reads is the two bytes held there. -/
theorem resetValues : Obligations.ResetValues := by
  refine ⟨rfl, rfl, rfl, rfl, rfl, rfl, ?_⟩
  rw [State.reset_pc, State.readWord_backed (State.reset_backed _) (State.reset_backed _)]

end Machine
end Sys2Proof
end

section
/-! The shape of each instruction's meaning: which shared operation it is and with what. A proof about all
instructions splits over the shapes and the mnemonics of each, not over the 151 constructors. -/

namespace Sys2Proof.Machine

/-! ### What each mnemonic does (R41, R42) -/

/-- The mnemonics that compute from an operand byte, and what each does with it (R121 to R123, R130 to R136,
R140 to R143). -/
inductive OperandRow : Mnemonic → (Byte → State → State) → Prop
  | lda : OperandRow .lda State.loadA
  | ldx : OperandRow .ldx State.loadX
  | ldy : OperandRow .ldy State.loadY
  | adc : OperandRow .adc State.adc
  | sbc : OperandRow .sbc State.sbc
  | cmp : OperandRow .cmp State.cmpA
  | cpx : OperandRow .cpx State.cmpX
  | cpy : OperandRow .cpy State.cmpY
  | and : OperandRow .and State.andA
  | bit : OperandRow .bit State.bitTest
  | eor : OperandRow .eor State.eorA
  | ora : OperandRow .ora State.oraA

/-- The stores, and the register each one stores (R124 to R126). -/
inductive StoreRow : Mnemonic → (State → Byte) → Prop
  | sta : StoreRow .sta State.a
  | stx : StoreRow .stx State.x
  | sty : StoreRow .sty State.y

/-- The shifts and rotates, and the byte and carry each one makes (R150 to R153). -/
inductive ShiftRow : Mnemonic → (Bool → Byte → ShiftOut) → Prop
  | asl : ShiftRow .asl aslByte
  | lsr : ShiftRow .lsr lsrByte
  | rol : ShiftRow .rol rotateLeft
  | ror : ShiftRow .ror rotateRight

/-- DEC and INC, and what each adds to the byte (R160, R161). -/
inductive CountRow : Mnemonic → Byte → Prop
  | dec : CountRow .dec 0xFF#8
  | inc : CountRow .inc 1#8

/-- The conditional branches, and the flag each one tests (R171 to R178). -/
inductive BranchRow : Mnemonic → (State → Bool) → Prop
  | bpl : BranchRow .bpl (fun s => !s.fN)
  | bmi : BranchRow .bmi (fun s => s.fN)
  | bvc : BranchRow .bvc (fun s => !s.fV)
  | bvs : BranchRow .bvs (fun s => s.fV)
  | bcc : BranchRow .bcc (fun s => !s.fC)
  | bcs : BranchRow .bcs (fun s => s.fC)
  | bne : BranchRow .bne (fun s => !s.fZ)
  | beq : BranchRow .beq (fun s => s.fZ)

/-- The mnemonics of the one-byte instructions without an operand, and what each does besides moving PC (R162 to
R169, R190 to R196, R200 to R205, R212). -/
inductive ImpliedRow : Mnemonic → (State → State) → Prop
  | tax : ImpliedRow .tax (fun s => s.loadX s.a)
  | txa : ImpliedRow .txa (fun s => s.loadA s.x)
  | dex : ImpliedRow .dex (fun s => s.loadX (s.x - 1#8))
  | inx : ImpliedRow .inx (fun s => s.loadX (s.x + 1#8))
  | tay : ImpliedRow .tay (fun s => s.loadY s.a)
  | tya : ImpliedRow .tya (fun s => s.loadA s.y)
  | dey : ImpliedRow .dey (fun s => s.loadY (s.y - 1#8))
  | iny : ImpliedRow .iny (fun s => s.loadY (s.y + 1#8))
  | clc : ImpliedRow .clc (fun s => { s with fC := false })
  | sec : ImpliedRow .sec (fun s => { s with fC := true })
  | cli : ImpliedRow .cli (fun s => { s with fI := false })
  | sei : ImpliedRow .sei (fun s => { s with fI := true })
  | clv : ImpliedRow .clv (fun s => { s with fV := false })
  | cld : ImpliedRow .cld (fun s => { s with fD := false })
  | sed : ImpliedRow .sed (fun s => { s with fD := true })
  | txs : ImpliedRow .txs (fun s => { s with sp := s.x })
  | tsx : ImpliedRow .tsx (fun s => s.loadX s.sp)
  | pha : ImpliedRow .pha (fun s => s.push s.a)
  | pla : ImpliedRow .pla (fun s => s.pull.2.loadA s.pull.1)
  | php : ImpliedRow .php (fun s => s.push (s.statusByte true))
  | plp : ImpliedRow .plp (fun s => s.pull.2.setStatus s.pull.1)
  | nop : ImpliedRow .nop (fun s => s)

/-! ### The shapes -/

/-- What the meaning of an instruction is made of: one of the shared operations of Machine/Operands.lean, with the
operation its mnemonic names, or one of the six meanings that set PC in a way of their own. -/
inductive ExecShape (i : Instr) : Prop
  | read {m k f} (hm : i.mnemonic = m) (hk : OperandRow m k) (hf : Instr.memForm i = some f)
      (he : exec i = readOp k f)
  | immediate {m k} (v : Byte) (hm : i.mnemonic = m) (hk : OperandRow m k) (hmode : i.mode = .imm)
      (he : exec i = immOp k v)
  | store {m v f} (hm : i.mnemonic = m) (hv : StoreRow m v) (hf : Instr.memForm i = some f)
      (he : exec i = storeOp v f)
  | shiftMem {m g f} (hm : i.mnemonic = m) (hg : ShiftRow m g) (hf : Instr.memForm i = some f)
      (he : exec i = shiftMem g f)
  | shiftAcc {m g} (hm : i.mnemonic = m) (hg : ShiftRow m g) (hmode : i.mode = .acc)
      (he : exec i = shiftAcc g)
  | stepMem {m d f} (hm : i.mnemonic = m) (hd : CountRow m d) (hf : Instr.memForm i = some f)
      (he : exec i = stepMem d f)
  | implied {m k} (hm : i.mnemonic = m) (hk : ImpliedRow m k) (hmode : i.mode = .imp)
      (he : exec i = impliedOp k)
  | branch {m cond} (disp : Byte) (hm : i.mnemonic = m) (hc : BranchRow m cond) (hmode : i.mode = .rel)
      (he : exec i = branchOp cond disp)
  | jmpAbs (w : Word) (hi : i = .jmpAbs w)
  | jmpInd (w : Word) (hi : i = .jmpInd w)
  | jsr (w : Word) (hi : i = .jsr w)
  | rts (hi : i = .rts)
  | brk (hi : i = .brk)
  | rti (hi : i = .rti)

/-- Every row of the opcode table has one of the shapes: the mnemonics one by one, each with its modes. The
split over all instructions is made here, and nowhere else. -/
theorem exec_shape (i : Instr) : ExecShape i := by
  cases i with
  | ldaImm v => exact .immediate v rfl .lda rfl rfl
  | ldaZp | ldaZpx | ldaAbs | ldaAbx | ldaAby | ldaIzx | ldaIzy => exact .read rfl .lda rfl rfl
  | ldxImm v => exact .immediate v rfl .ldx rfl rfl
  | ldxZp | ldxZpy | ldxAbs | ldxAby => exact .read rfl .ldx rfl rfl
  | ldyImm v => exact .immediate v rfl .ldy rfl rfl
  | ldyZp | ldyZpx | ldyAbs | ldyAbx => exact .read rfl .ldy rfl rfl
  | staZp | staZpx | staAbs | staAbx | staAby | staIzx | staIzy => exact .store rfl .sta rfl rfl
  | stxZp | stxZpy | stxAbs => exact .store rfl .stx rfl rfl
  | styZp | styZpx | styAbs => exact .store rfl .sty rfl rfl
  | adcImm v => exact .immediate v rfl .adc rfl rfl
  | adcZp | adcZpx | adcAbs | adcAbx | adcAby | adcIzx | adcIzy => exact .read rfl .adc rfl rfl
  | sbcImm v => exact .immediate v rfl .sbc rfl rfl
  | sbcZp | sbcZpx | sbcAbs | sbcAbx | sbcAby | sbcIzx | sbcIzy => exact .read rfl .sbc rfl rfl
  | cmpImm v => exact .immediate v rfl .cmp rfl rfl
  | cmpZp | cmpZpx | cmpAbs | cmpAbx | cmpAby | cmpIzx | cmpIzy => exact .read rfl .cmp rfl rfl
  | cpxImm v => exact .immediate v rfl .cpx rfl rfl
  | cpxZp | cpxAbs => exact .read rfl .cpx rfl rfl
  | cpyImm v => exact .immediate v rfl .cpy rfl rfl
  | cpyZp | cpyAbs => exact .read rfl .cpy rfl rfl
  | andImm v => exact .immediate v rfl .and rfl rfl
  | andZp | andZpx | andAbs | andAbx | andAby | andIzx | andIzy => exact .read rfl .and rfl rfl
  | bitZp | bitAbs => exact .read rfl .bit rfl rfl
  | eorImm v => exact .immediate v rfl .eor rfl rfl
  | eorZp | eorZpx | eorAbs | eorAbx | eorAby | eorIzx | eorIzy => exact .read rfl .eor rfl rfl
  | oraImm v => exact .immediate v rfl .ora rfl rfl
  | oraZp | oraZpx | oraAbs | oraAbx | oraAby | oraIzx | oraIzy => exact .read rfl .ora rfl rfl
  | aslZp | aslZpx | aslAbs | aslAbx => exact .shiftMem rfl .asl rfl rfl
  | aslAcc => exact .shiftAcc rfl .asl rfl rfl
  | lsrZp | lsrZpx | lsrAbs | lsrAbx => exact .shiftMem rfl .lsr rfl rfl
  | lsrAcc => exact .shiftAcc rfl .lsr rfl rfl
  | rolZp | rolZpx | rolAbs | rolAbx => exact .shiftMem rfl .rol rfl rfl
  | rolAcc => exact .shiftAcc rfl .rol rfl rfl
  | rorZp | rorZpx | rorAbs | rorAbx => exact .shiftMem rfl .ror rfl rfl
  | rorAcc => exact .shiftAcc rfl .ror rfl rfl
  | decZp | decZpx | decAbs | decAbx => exact .stepMem rfl .dec rfl rfl
  | incZp | incZpx | incAbs | incAbx => exact .stepMem rfl .inc rfl rfl
  | tax => exact .implied rfl .tax rfl rfl
  | txa => exact .implied rfl .txa rfl rfl
  | dex => exact .implied rfl .dex rfl rfl
  | inx => exact .implied rfl .inx rfl rfl
  | tay => exact .implied rfl .tay rfl rfl
  | tya => exact .implied rfl .tya rfl rfl
  | dey => exact .implied rfl .dey rfl rfl
  | iny => exact .implied rfl .iny rfl rfl
  | bpl d => exact .branch d rfl .bpl rfl rfl
  | bmi d => exact .branch d rfl .bmi rfl rfl
  | bvc d => exact .branch d rfl .bvc rfl rfl
  | bvs d => exact .branch d rfl .bvs rfl rfl
  | bcc d => exact .branch d rfl .bcc rfl rfl
  | bcs d => exact .branch d rfl .bcs rfl rfl
  | bne d => exact .branch d rfl .bne rfl rfl
  | beq d => exact .branch d rfl .beq rfl rfl
  | jmpAbs w => exact .jmpAbs w rfl
  | jmpInd w => exact .jmpInd w rfl
  | jsr w => exact .jsr w rfl
  | rts => exact .rts rfl
  | clc => exact .implied rfl .clc rfl rfl
  | sec => exact .implied rfl .sec rfl rfl
  | cli => exact .implied rfl .cli rfl rfl
  | sei => exact .implied rfl .sei rfl rfl
  | clv => exact .implied rfl .clv rfl rfl
  | cld => exact .implied rfl .cld rfl rfl
  | sed => exact .implied rfl .sed rfl rfl
  | txs => exact .implied rfl .txs rfl rfl
  | tsx => exact .implied rfl .tsx rfl rfl
  | pha => exact .implied rfl .pha rfl rfl
  | pla => exact .implied rfl .pla rfl rfl
  | php => exact .implied rfl .php rfl rfl
  | plp => exact .implied rfl .plp rfl rfl
  | brk => exact .brk rfl
  | rti => exact .rti rfl
  | nop => exact .implied rfl .nop rfl rfl

/-- A memory form is as long as the instruction that has it (R82). -/
theorem MemForm.length_of_memForm {i : Instr} {f : MemForm} (h : Instr.memForm i = some f) :
    f.length = i.length := by
  unfold Instr.memForm at h
  split at h
  · cases h
  · split at h <;> cases h <;> simp [MemForm.length, Instr.length, Mode.length, *]

/-! ### What the six meanings outside the shared operations can do -/

/-- What JMP Indirect can do (R181). -/
theorem exec_jmpInd_next {w : Word} {s t : State} :
    exec (.jmpInd w) s = .next t ↔ (s.kindOf w ≠ .io ∧ s.kindOf (vectorHighAddr w) ≠ .io) ∧
      t = (((s.advance 3).readByte w).2.readByte (vectorHighAddr w)).2.jump
        (join (((s.advance 3).readByte w).2.readByte (vectorHighAddr w)).1 ((s.advance 3).readByte w).1) := by
  by_cases h : s.kindOf w = .io ∨ s.kindOf (vectorHighAddr w) = .io
  · rw [exec_jmpInd, if_pos (by simpa using h)]
    exact ⟨nofun, fun ⟨⟨hl, hh⟩, _⟩ => absurd h (not_or.2 ⟨hl, hh⟩)⟩
  · rw [exec_jmpInd, if_neg (by simpa using h)]
    rw [not_or] at h
    simp [h, eq_comm]

/-- What JMP Absolute can do (R180). -/
theorem exec_jmpAbs_next {w : Word} {s t : State} :
    exec (.jmpAbs w) s = .next t ↔ t = (s.advance 3).jump w := by simp [eq_comm]

/-- What JSR can do (R182). -/
theorem exec_jsr_next {w : Word} {s t : State} :
    exec (.jsr w) s = .next t ↔ t = ((s.advance 3).pushWord (s.pc + 2#16)).jump w := by simp [eq_comm]

/-- What RTS can do (R183). -/
theorem exec_rts_next {s t : State} :
    exec .rts s = .next t ↔ t = (s.advance 1).pullWord.2.jump ((s.advance 1).pullWord.1 + 1#16) := by
  simp [eq_comm]

/-- What BRK can do (R210). -/
theorem exec_brk_next {s t : State} :
    exec .brk s = .next t ↔ t = s.enter (s.pc + 2#16) s.vecIrq true := by simp [eq_comm]

/-- What RTI can do (R211). -/
theorem exec_rti_next {s t : State} : exec .rti s = .next t ↔ t = s.returnFromException := by simp [eq_comm]

end Sys2Proof.Machine
end

section
/-! What an instruction may write of the registers, the flags and `I_before`, over all instructions. -/

namespace Sys2Proof.Machine

open Claims

/-- `u` is `s` past the instruction `i`, with nothing else changed but memory, the devices' log and the count of
draws: what operand accesses leave of the state. -/
def Advanced (i : Instr) (s u : State) : Prop :=
  ∃ m l d, u = { s.advance i.length with mem := m, devLog := l, draws := d }

/-! The accesses of the shapes leave such a state. -/

theorem Advanced.of_mode {i : Instr} {s : State} {mode : Mode} (h : i.mode = mode) :
    Advanced i s (s.advance mode.length) := ⟨_, _, _, by rw [Instr.length, h]⟩

theorem Advanced.of_readByte {i : Instr} {f : MemForm} (h : Instr.memForm i = some f) (s : State) (a : Word) :
    Advanced i s ((s.readByte a).2.advance f.length) :=
  ⟨_, _, _, by rw [State.readByte_snd, MemForm.length_of_memForm h]; rfl⟩

theorem Advanced.writeByte {i : Instr} {s u : State} (h : Advanced i s u) (a : Word) (b : Byte) :
    Advanced i s (u.writeByte a b) := by
  obtain ⟨m, l, d, rfl⟩ := h
  exact ⟨_, _, _, by rw [State.writeByte_eq]⟩

/-- What pushes take from S, as a negative number added (`stackMove` counts so). -/
theorem sub_eq_add_ofInt (p : Byte) : p - 1#8 = p + BitVec.ofInt 8 (-1) ∧ p - 2#8 = p + BitVec.ofInt 8 (-2) ∧
    p - 3#8 = p + BitVec.ofInt 8 (-3) := by
  simp [BitVec.sub_eq_add_neg]

/-- What the step of an instruction may write of the registers (R41), of the flags (R42) and of `I_before` (R39). -/
structure ExecWrites (i : Instr) (s t : State) : Prop where
  a : t.a ≠ s.a → i.mnemonic ∈ [.lda, .pla, .txa, .tya, .adc, .sbc, .and, .eor, .ora] ∨
    (i.mnemonic ∈ [.asl, .lsr, .rol, .ror] ∧ i.mode = .acc)
  x : t.x ≠ s.x → i.mnemonic ∈ [.ldx, .tax, .tsx, .inx, .dex]
  y : t.y ≠ s.y → i.mnemonic ∈ [.ldy, .tay, .iny, .dey]
  sp : i.mnemonic ≠ .txs → t.sp = s.sp + BitVec.ofInt 8 (stackMove i.mnemonic)
  pc : t.pc ≠ s.pc + BitVec.ofNat 16 i.length → i.mnemonic ∈
    [.bpl, .bmi, .bvc, .bvs, .bcc, .bcs, .bne, .beq, .jmp, .jsr, .rts, .rti, .brk]
  fNZ : t.fN ≠ s.fN ∨ t.fZ ≠ s.fZ → i.mnemonic ∈
    [.adc, .sbc, .and, .eor, .ora, .asl, .lsr, .rol, .ror, .bit, .cmp, .cpx, .cpy, .dec, .inc, .lda, .ldx, .ldy,
     .tax, .txa, .dex, .inx, .tay, .tya, .dey, .iny, .tsx, .pla, .plp, .rti]
  fV : t.fV ≠ s.fV → i.mnemonic ∈ [.adc, .sbc, .bit, .clv, .plp, .rti]
  fD : t.fD ≠ s.fD → i.mnemonic ∈ [.cld, .sed, .plp, .rti]
  fI : t.fI ≠ s.fI → i.mnemonic ∈ [.brk, .cli, .sei, .plp, .rti]
  fC : t.fC ≠ s.fC → i.mnemonic ∈
    [.adc, .sbc, .asl, .lsr, .rol, .ror, .cmp, .cpx, .cpy, .clc, .sec, .plp, .rti]
  iBefore_old : i.mnemonic ∉ [.rti, .brk] → t.iBefore = s.fI
  iBefore_new : i.mnemonic ∈ [.rti, .brk] → t.iBefore = t.fI

/-! Row by row: the mnemonics of a shape one by one, where the state's own lemmas say which fields move. -/

section
variable {i : Instr} {s u : State} {m : Mnemonic}

theorem OperandRow.writes {k : Byte → State → State} (hk : OperandRow m k) (hm : i.mnemonic = m)
    (hu : Advanced i s u) (v : Byte) : ExecWrites i s (k v u) := by
  obtain ⟨_, _, _, rfl⟩ := hu
  cases hk <;> constructor <;> simp [hm, stackMove]

theorem StoreRow.writes {v : State → Byte} (hv : StoreRow m v) (hm : i.mnemonic = m)
    (hu : Advanced i s u) : ExecWrites i s u := by
  obtain ⟨_, _, _, rfl⟩ := hu
  cases hv <;> constructor <;> simp [hm, stackMove]

theorem ShiftRow.writes {g : Bool → Byte → ShiftOut} (hg : ShiftRow m g) (hm : i.mnemonic = m)
    (hu : Advanced i s u) (r : ShiftOut) : ExecWrites i s (u.setShift r) := by
  obtain ⟨_, _, _, rfl⟩ := hu
  cases hg <;> constructor <;> simp [hm, stackMove]

theorem ShiftRow.writes_acc {g : Bool → Byte → ShiftOut} (hg : ShiftRow m g) (hm : i.mnemonic = m)
    (hmode : i.mode = .acc) (hu : Advanced i s u) (r : ShiftOut) :
    ExecWrites i s (({ u with a := r.result } : State).setShift r) := by
  obtain ⟨_, _, _, rfl⟩ := hu
  cases hg <;> constructor <;> simp [hm, hmode, stackMove]

theorem CountRow.writes {d : Byte} (hd : CountRow m d) (hm : i.mnemonic = m)
    (hu : Advanced i s u) (v : Byte) : ExecWrites i s (u.setNZ v) := by
  obtain ⟨_, _, _, rfl⟩ := hu
  cases hd <;> constructor <;> simp [hm, stackMove]

theorem ImpliedRow.writes {k : State → State} (hk : ImpliedRow m k) (hm : i.mnemonic = m)
    (hu : Advanced i s u) : ExecWrites i s (k u) := by
  obtain ⟨_, _, _, rfl⟩ := hu
  cases hk <;> constructor <;> simp [hm, stackMove, sub_eq_add_ofInt]

theorem BranchRow.writes {cond : State → Bool} (hc : BranchRow m cond) (hm : i.mnemonic = m)
    (hu : Advanced i s u) (w : Word) : ExecWrites i s (u.jump w) := by
  obtain ⟨_, _, _, rfl⟩ := hu
  cases hc <;> constructor <;> simp [hm, stackMove]

end

/-- The write matrices of R41 and R42 and the rule for `I_before` of R39, for every instruction: by shape, each
from its row lemma. -/
theorem exec_writes {i : Instr} {s t : State} (h : exec i s = .next t) : ExecWrites i s t := by
  cases exec_shape i with
  | read hm hk hf he =>
    rw [he, readOp_next] at h
    obtain ⟨-, rfl⟩ := h
    exact hk.writes hm (.of_readByte hf ..) _
  | immediate v hm hk hmode he =>
    rw [he, immOp_next] at h
    subst h
    exact hk.writes hm (.of_mode hmode) v
  | store hm hv hf he =>
    rw [he, storeOp_next, MemForm.length_of_memForm hf] at h
    obtain ⟨-, rfl⟩ := h
    exact hv.writes hm (.writeByte ⟨_, _, _, rfl⟩ ..)
  | shiftMem hm hg hf he =>
    rw [he, shiftMem_next] at h
    obtain ⟨-, rfl⟩ := h
    exact hg.writes hm (.writeByte (.of_readByte hf ..) ..) _
  | shiftAcc hm hg hmode he =>
    rw [he, shiftAcc_next] at h
    subst h
    exact hg.writes_acc hm hmode (.of_mode hmode) _
  | stepMem hm hd hf he =>
    rw [he, stepMem_next] at h
    obtain ⟨-, rfl⟩ := h
    exact hd.writes hm (.writeByte (.of_readByte hf ..) ..) _
  | implied hm hk hmode he =>
    rw [he, impliedOp_next] at h
    subst h
    exact hk.writes hm (.of_mode hmode)
  | branch disp hm hc hmode he =>
    rw [he, branchOp_next] at h
    obtain ⟨-, -, rfl⟩ | ⟨-, rfl⟩ := h
    · exact hc.writes hm (.of_mode hmode) _
    · exact hc.writes hm (.of_mode hmode) (s.advance 2).pc
  | jmpAbs w hi =>
    subst hi
    obtain rfl := exec_jmpAbs_next.1 h
    constructor <;> simp [Instr.mnemonic, stackMove]
  | jmpInd w hi =>
    subst hi
    obtain ⟨-, rfl⟩ := exec_jmpInd_next.1 h
    constructor <;> simp [Instr.mnemonic, stackMove]
  | jsr w hi =>
    subst hi
    obtain rfl := exec_jsr_next.1 h
    constructor <;> simp [Instr.mnemonic, stackMove, sub_eq_add_ofInt]
  | rts hi =>
    subst hi
    obtain rfl := exec_rts_next.1 h
    constructor <;> simp [Instr.mnemonic, stackMove]
  | brk hi =>
    subst hi
    obtain rfl := exec_brk_next.1 h
    constructor <;> simp [Instr.mnemonic, stackMove, sub_eq_add_ofInt]
  | rti hi =>
    subst hi
    obtain rfl := exec_rti_next.1 h
    constructor <;> simp [Instr.mnemonic, stackMove, State.returnFromException_eq]

end Sys2Proof.Machine
end

section
/-! What an instruction may make of memory, over all instructions; and the statements about the state. -/

namespace Sys2Proof.Machine

open Claims Safety

/-- The mnemonics that write a byte at their effective address: the stores and the read-modify-writes (R120,
R154). -/
abbrev memoryWriters : List Mnemonic :=
  [.sta, .stx, .sty, .asl, .lsr, .rol, .ror, .inc, .dec]

/-- What an instruction may make of memory (R41): nothing, one byte at its effective address, or stack bytes. -/
inductive MemoryEffect (i : Instr) (s : State) (m : Memory) : Prop
  | unchanged (h : m = s.mem)
  | operand {f : MemForm} (hf : Instr.memForm i = some f)
      (hm : i.mnemonic ∈ memoryWriters) (b : Byte) (h : m = (s.writeByte (f.ea s) b).mem)
  | push (hm : i.mnemonic ∈ [.pha, .php]) (b : Byte) (h : m = s.mem.write (stackAddr s.sp) b)
  | call (hm : i.mnemonic = .jsr) (w : Word) (h : m = (s.pushWord w).mem)
  | enter (hm : i.mnemonic = .brk) (ret vec : Word) (brk : Bool) (h : m = (s.enter ret vec brk).mem)

/-- What a write makes of memory depends on memory and the map alone (R57). -/
theorem State.writeByte_mem_congr {s u : State} (hmem : u.mem = s.mem) (hreg : u.regions = s.regions)
    (a : Word) (b : Byte) : (u.writeByte a b).mem = (s.writeByte a b).mem := by
  simp only [State.writeByte, State.kindOf_congr hreg]
  split <;> simp [hmem]

theorem StoreRow.mem_memoryWriters {m : Mnemonic} {v : State → Byte} (h : StoreRow m v) :
    m ∈ memoryWriters := by cases h <;> simp

theorem ShiftRow.mem_memoryWriters {m : Mnemonic} {g : Bool → Byte → ShiftOut} (h : ShiftRow m g) :
    m ∈ memoryWriters := by cases h <;> simp

theorem CountRow.mem_memoryWriters {m : Mnemonic} {d : Byte} (h : CountRow m d) :
    m ∈ memoryWriters := by cases h <;> simp

theorem OperandRow.mem_eq {m : Mnemonic} {k : Byte → State → State} (hk : OperandRow m k) (v : Byte) (u : State) :
    (k v u).mem = u.mem := by cases hk <;> simp

theorem ImpliedRow.mem_cases {m : Mnemonic} {k : State → State} (hk : ImpliedRow m k) (u : State) :
    (k u).mem = u.mem ∨ m ∈ [.pha, .php] ∧ ∃ b, (k u).mem = u.mem.write (stackAddr u.sp) b := by
  cases hk <;> simp

/-- What every instruction makes of memory, by shape. -/
theorem exec_memory {i : Instr} {s t : State} (h : exec i s = .next t) : MemoryEffect i s t.mem := by
  cases exec_shape i with
  | read hm hk hf he =>
    rw [he, readOp_next] at h
    obtain ⟨-, rfl⟩ := h
    exact .unchanged (by simp [hk.mem_eq])
  | immediate v hm hk hmode he =>
    rw [he, immOp_next] at h
    subst h
    exact .unchanged (by simp [hk.mem_eq])
  | store hm hv hf he =>
    rw [he, storeOp_next] at h
    obtain ⟨-, rfl⟩ := h
    exact .operand hf (hm ▸ hv.mem_memoryWriters) _ (State.writeByte_mem_congr (by simp) (by simp) _ _)
  | shiftMem hm hg hf he =>
    rw [he, shiftMem_next] at h
    obtain ⟨-, rfl⟩ := h
    exact .operand hf (hm ▸ hg.mem_memoryWriters) _ (State.writeByte_mem_congr (by simp) (by simp) _ _)
  | shiftAcc hm hg hmode he =>
    rw [he, shiftAcc_next] at h
    subst h
    exact .unchanged (by simp)
  | stepMem hm hd hf he =>
    rw [he, stepMem_next] at h
    obtain ⟨-, rfl⟩ := h
    exact .operand hf (hm ▸ hd.mem_memoryWriters) _ (State.writeByte_mem_congr (by simp) (by simp) _ _)
  | implied hm hk hmode he =>
    rw [he, impliedOp_next] at h
    subst h
    obtain hsame | ⟨hpush, b, hb⟩ := hk.mem_cases (s.advance 1)
    · exact .unchanged hsame
    · exact .push (hm ▸ hpush) b hb
  | branch disp hm hc hmode he =>
    rw [he, branchOp_next] at h
    obtain ⟨-, -, rfl⟩ | ⟨-, rfl⟩ := h <;> exact .unchanged rfl
  | jmpAbs w hi =>
    subst hi
    rw [exec_jmpAbs_next] at h
    exact .unchanged (by simp [h])
  | jmpInd w hi =>
    subst hi
    rw [exec_jmpInd_next] at h
    exact .unchanged (by simp [h])
  | jsr w hi =>
    subst hi
    rw [exec_jsr_next] at h
    exact .call rfl (s.pc + 2#16) (by simp [h])
  | rts hi =>
    subst hi
    rw [exec_rts_next] at h
    exact .unchanged (by simp [h])
  | brk hi =>
    subst hi
    rw [exec_brk_next] at h
    exact .enter rfl _ _ _ (by rw [h])
  | rti hi =>
    subst hi
    rw [exec_rti_next] at h
    exact .unchanged (by simp [h, State.returnFromException_eq])

/-! ### Every step keeps memory canonical (R38, R50) -/

theorem State.enter_mem_wf {s : State} (hs : s.mem.wf = true) (ret vec : Word) (brk : Bool) :
    (s.enter ret vec brk).mem.wf = true := by
  rw [State.enter_mem]
  exact Memory.wf_write _ _ (Memory.wf_write _ _ (Memory.wf_write _ _ hs))

theorem MemoryEffect.wf {i : Instr} {s : State} {m : Memory} (h : MemoryEffect i s m) (hs : s.mem.wf = true) :
    m.wf = true := by
  cases h with
  | unchanged h => exact h ▸ hs
  | operand _ _ b h => exact h ▸ State.writeByte_mem_wf _ b hs
  | push _ b h => exact h ▸ Memory.wf_write _ b hs
  | call _ w h =>
    rw [h, State.pushWord_mem]
    exact Memory.wf_write _ _ (Memory.wf_write _ _ hs)
  | enter _ ret vec brk h => exact h ▸ State.enter_mem_wf hs ret vec brk

/-- Reads leave memory alone, and so does the fetch (R52). -/
theorem readFrom_mem (n : Nat) (a : Word) (s : State) : (readFrom n a s).2.mem = s.mem := by
  induction n generalizing a s with
  | zero => rfl
  | succ n ih => simp [readFrom, ih]

theorem State.fetch_mem {s u : State} {i : Instr} (h : s.fetch = .ok (i, u)) : u.mem = s.mem := by
  obtain ⟨-, rfl⟩ := (s.fetch_eq_ok_iff_decode u i).1 h
  exact readFrom_mem ..

/-- What running the instruction at PC can do. -/
theorem runInstruction_next {s t : State} :
    runInstruction s = .next t ↔ ∃ i u, s.fetch = .ok (i, u) ∧ exec i u = .next t := by
  unfold runInstruction
  rcases s.fetch with _ | ⟨i, u⟩ <;> simp

/-! What the reset step leaves of memory, I and `I_before` (R250). -/

@[simp] theorem State.resetEntry_mem (s : State) : s.resetEntry.mem = s.mem := by simp [State.resetEntry]
@[simp] theorem State.resetEntry_fI (s : State) : s.resetEntry.fI = true := by simp [State.resetEntry]
@[simp] theorem State.resetEntry_iBefore (s : State) : s.resetEntry.iBefore = true := by simp [State.resetEntry]

theorem runInstruction_mem_wf {s t : State} (h : runInstruction s = .next t) (hs : s.mem.wf = true) :
    t.mem.wf = true := by
  obtain ⟨i, u, hf, he⟩ := runInstruction_next.1 h
  exact (exec_memory he).wf (State.fetch_mem hf ▸ hs)

/-- A reset writes nothing, an entry writes three stack bytes, an instruction what `exec_memory` lists. -/
theorem step_mem_wf {s t : State} (h : step s = .next t) (hs : s.mem.wf = true) : t.mem.wf = true := by
  obtain ⟨e, u, hr, hstep⟩ := step_cases h
  have hmem : u.mem = s.mem := by simpa [hr] using s.sample.recognise_mem
  have hu : u.mem.wf = true := hmem ▸ hs
  obtain ⟨-, ht⟩ | ⟨-, ht⟩ | ⟨-, ht⟩ | ⟨-, ht⟩ := hstep
  · cases ht
    rwa [State.resetEntry_mem]
  · cases ht
    exact State.enter_mem_wf (s := { u with nmiPending := false }) hu u.pc u.vecNmi false
  · cases ht
    exact State.enter_mem_wf hu u.pc u.vecIrq false
  · exact runInstruction_mem_wf ht.symm hu

/-- Settles O54. -/
theorem stepKeepsMemoryCanonical : Obligations.StepKeepsMemoryCanonical :=
  fun _ _ hs h => step_mem_wf h hs

/-- Settles O55. -/
theorem resetMemoryCanonical : Obligations.ResetMemoryCanonical := State.reset_mem_wf

/-! ### Which bytes of memory change (R41) -/

/-- The statements' `$0100 + S` is the model's (R59). -/
theorem stackCell_eq_stackAddr (p : Byte) : stackCell p = stackAddr p := by
  have := p.isLt
  apply BitVec.eq_of_toNat_eq
  rw [stackAddr_toNat]
  simp [stackCell]; omega

/-- An address that reads otherwise after a write is the one written, or read otherwise before. -/
theorem Memory.eq_or_read_ne_of_read_write_ne {m m' : Memory} {a a' : Word} {b : Byte}
    (h : (m.write a b).read a' ≠ m'.read a') : a' = a ∨ m.read a' ≠ m'.read a' := by
  by_cases ha : a' = a
  · exact .inl ha
  · exact .inr (m.read_write_of_ne b ha ▸ h)

theorem State.pushWord_read_ne {s : State} {w a : Word} (h : (s.pushWord w).mem.read a ≠ s.mem.read a) :
    a = stackCell s.sp ∨ a = stackCell (s.sp - 1#8) := by
  rw [State.pushWord_mem] at h
  simp only [stackCell_eq_stackAddr]
  obtain ha | h := Memory.eq_or_read_ne_of_read_write_ne h
  · exact .inr ha
  obtain ha | h := Memory.eq_or_read_ne_of_read_write_ne h
  · exact .inl ha
  · exact absurd rfl h

theorem State.enter_read_ne {s : State} {ret vec a : Word} {brk : Bool}
    (h : (s.enter ret vec brk).mem.read a ≠ s.mem.read a) :
    a ∈ [stackCell s.sp, stackCell (s.sp - 1#8), stackCell (s.sp - 2#8)] := by
  rw [State.enter_mem, ← State.pushWord_mem] at h
  obtain ha | h := Memory.eq_or_read_ne_of_read_write_ne h
  · simp [ha, stackCell_eq_stackAddr]
  · rcases State.pushWord_read_ne h with ha | ha <;> simp [ha]

/-- The memory clause of R41. -/
theorem MemoryEffect.read_ne {i : Instr} {s : State} {m : Memory} (h : MemoryEffect i s m) {a : Word}
    (ha : m.read a ≠ s.mem.read a) :
    (i.mnemonic ∈ memoryWriters ∧
        ∃ f : MemForm, Instr.memForm i = some f ∧ a = f.ea s) ∨
      (i.mnemonic ∈ [.pha, .php, .jsr, .brk] ∧ a = stackCell s.sp) ∨
      (i.mnemonic ∈ [.jsr, .brk] ∧ a = stackCell (s.sp - 1#8)) ∨
      (i.mnemonic = .brk ∧ a = stackCell (s.sp - 2#8)) := by
  cases h with
  | unchanged h => exact absurd (by rw [h]) ha
  | operand hf hm b h =>
    subst h
    refine .inl ⟨hm, _, hf, ?_⟩
    by_contra hne
    exact ha (s.writeByte_mem_read_of_ne b hne)
  | push hm b h =>
    subst h
    have hcell : a = stackCell s.sp := by
      by_contra hne
      rw [stackCell_eq_stackAddr] at hne
      exact ha (s.mem.read_write_of_ne b hne)
    have hstack : i.mnemonic ∈ [.pha, .php, .jsr, .brk] := by
      simp only [List.mem_cons, List.not_mem_nil, or_false] at hm ⊢
      tauto
    exact .inr (.inl ⟨hstack, hcell⟩)
  | call hm w h =>
    subst h
    rcases State.pushWord_read_ne ha with hcell | hcell <;> simp [hm, hcell]
  | enter hm ret vec brk h =>
    subst h
    have hcell := State.enter_read_ne ha
    simp only [List.mem_cons, List.not_mem_nil, or_false] at hcell
    rcases hcell with hcell | hcell | hcell <;> simp [hm, hcell]

/-! ### The write matrices and the rule for `I_before` (R39, R41, R42) -/

/-- IRQ and NMI entry are the one entry; what becomes of the latched request does not matter to the rest. -/
theorem State.entry_eq_enter {s e : State} (h : e ∈ [s.irqEntry, s.nmiEntry]) :
    ∃ p vec, e = ({ s with nmiPending := p } : State).enter s.pc vec false := by
  simp only [List.mem_cons, List.not_mem_nil, or_false] at h
  obtain rfl | rfl := h
  · exact ⟨s.nmiPending, s.vecIrq, rfl⟩
  · exact ⟨false, s.vecNmi, rfl⟩

/-- Settles O47, from what an instruction may write of the registers and of memory. -/
theorem registerWriteMatrix : Obligations.RegisterWriteMatrix := by
  intro i s t
  refine ⟨fun h => ?_, fun e he => ?_, s.resetEntry_mem⟩
  · have hw := exec_writes h
    exact ⟨hw.a, hw.x, hw.y, hw.sp, hw.pc, fun _ => (exec_memory h).read_ne⟩
  · obtain ⟨p, vec, rfl⟩ := State.entry_eq_enter he
    exact ⟨by simp, by simp, by simp, by simp, fun _ => State.enter_read_ne (s := { s with nmiPending := p })⟩

/-- Settles O48, from what an instruction may write of the flags. -/
theorem flagWriteMatrix : Obligations.FlagWriteMatrix := by
  intro i s t
  refine ⟨fun h => ?_, fun e he => ?_, s.resetEntry_fI⟩
  · have hw := exec_writes h
    exact ⟨hw.fNZ, hw.fV, hw.fD, hw.fI, hw.fC⟩
  · obtain ⟨p, vec, rfl⟩ := State.entry_eq_enter he
    simp

/-- I lags only where an instruction that is not RTI or BRK writes it (R39). -/
theorem exec_iBefore_eq_fI {i : Instr} {s t : State} (h : exec i s = .next t)
    (hm : i.mnemonic ∉ [.cli, .sei, .plp]) : t.iBefore = t.fI := by
  have hw := exec_writes h
  by_cases hnew : i.mnemonic ∈ [.rti, .brk]
  · exact hw.iBefore_new hnew
  · have hI : t.fI = s.fI := by
      by_contra hne
      have hwriter := hw.fI hne
      simp only [List.mem_cons, List.not_mem_nil, or_false, not_or] at hwriter hm hnew
      tauto
    rw [hI, hw.iBefore_old hnew]

/-- Settles O49. -/
theorem maskingLag : Obligations.MaskingLag := by
  intro i s t
  exact ⟨fun h => ⟨(exec_writes h).iBefore_old, exec_iBefore_eq_fI h⟩, by simp [State.irqEntry],
    by simp [State.nmiEntry], by simp⟩

/-! ### The pushed status and the sampled inputs (R34, R35, R39) -/

/-- Settles O41. PLP reads the cell PHP wrote, and the bits of the status byte there are the flags of then. -/
theorem statusSurvivesTheStack : Obligations.StatusSurvivesTheStack := by
  intro s t n v d i z c h
  rw [exec_php, impliedOp_next] at h
  subst h
  refine ⟨_, rfl, ?_⟩
  simp [State.pull_eq, State.push_eq]

/-- Settles O43. -/
theorem sampledInputs : Obligations.SampledInputs := by
  intro s p rest
  constructor
  · intro hempty
    simp [State.sample, hempty]
  · intro hentry
    simp [State.sample, hentry]

end Sys2Proof.Machine
end

section
/-! What the accesses of R57 give a program: the regions, the stack, effective addresses as numbers, and a load
after a store. -/

namespace Sys2Proof.Machine

open Claims Safety

/-! ### Regions and the stack (R57, R59, R60) -/

/-- Settles O10, clause by clause from the laws of reads and writes. -/
theorem accessByRegion : Obligations.AccessByRegion := fun _ _ b =>
  ⟨State.readByte_backed, fun h => ⟨_, State.readByte_io h⟩, fun h => ⟨_, State.readByte_unmapped h⟩,
    State.writeByte_ram b, State.writeByte_rom b, State.writeByte_io b, State.writeByte_unmapped b⟩

/-- Settles O13. Pull reads at S + 1, which after the push is the cell the push wrote. -/
theorem pullUndoesPush : Obligations.PullUndoesPush := by
  intro s b
  simp only [stackCell_eq_stackAddr]
  refine ⟨s.push_eq b, s.pull_eq, ?_⟩
  rw [State.pull_eq, State.push_eq]
  simp

/-! ### Effective addresses (R55, R56, R88 to R95) -/

/-- A pointer of page 0 is little-endian and wraps inside the page (R56). -/
theorem State.readZpWord_toNat (s : State) (z : Byte) :
    (s.readZpWord z).toNat =
      (s.mem.read (BitVec.ofNat 16 ((z.toNat + 1) % 256))).toNat * 256 +
        (s.mem.read (BitVec.ofNat 16 z.toNat)).toNat := by
  simp [State.readZpWord, zext16, BitVec.toNat_add]

/-- Settles O12, form by form. -/
theorem effectiveAddresses : Obligations.EffectiveAddresses := by
  intro s b w
  refine ⟨?zp, ?zpx, ?zpy, rfl, ?abx, ?aby, ?izx, ?izy⟩
  case zp => exact zext16_toNat b
  case zpx | zpy | abx | aby => simp [MemForm.ea, BitVec.toNat_add]
  case izx | izy => simp [MemForm.ea, State.readZpWord_toNat, BitVec.toNat_add]

/-! ### The instructions that have a memory form (R120, R154) -/

/-- The mode a form is written in (R88 to R95). -/
def MemForm.mode : MemForm → Mode
  | .zp _ => .zp | .zpx _ => .zpx | .zpy _ => .zpy
  | .abs _ => .abs | .abx _ => .abx | .aby _ => .aby
  | .izx _ => .izx | .izy _ => .izy

theorem Instr.mode_of_memForm {i : Instr} {f : MemForm} (h : Instr.memForm i = some f) : i.mode = f.mode := by
  unfold Instr.memForm at h
  split at h
  · cases h
  · split at h <;> cases h <;> assumption

/-- The stores (R124 to R126). -/
abbrev stores : List Mnemonic := [.sta, .stx, .sty]

/-- The read-modify-writes (R154). -/
abbrev modifiers : List Mnemonic := [.asl, .lsr, .rol, .ror, .inc, .dec]

theorem memoryWriters_eq : memoryWriters = stores ++ modifiers := rfl

theorem stores_disjoint_modifiers : stores.Disjoint modifiers := by simp

theorem loads_disjoint_memoryWriters : List.Disjoint [.lda, .ldx, .ldy] memoryWriters := by simp

section
variable {m : Mnemonic}

theorem OperandRow.not_mem_memoryWriters {k : Byte → State → State} (h : OperandRow m k) : m ∉ memoryWriters := by
  cases h <;> decide

theorem StoreRow.mem_stores {v : State → Byte} (h : StoreRow m v) : m ∈ stores := by
  cases h <;> decide

theorem ShiftRow.mem_modifiers {g : Bool → Byte → ShiftOut} (h : ShiftRow m g) : m ∈ modifiers := by
  cases h <;> decide

theorem CountRow.mem_modifiers {d : Byte} (h : CountRow m d) : m ∈ modifiers := by
  cases h <;> decide

end

/-- An instruction with a memory form reads a byte there, stores one, or reads, modifies and writes one, as its
mnemonic says. -/
inductive MemShape (i : Instr) (f : MemForm) : Prop
  | read {k} (hk : OperandRow i.mnemonic k) (he : exec i = readOp k f)
  | store {v} (hv : StoreRow i.mnemonic v) (he : exec i = storeOp v f)
  | shift {g} (hg : ShiftRow i.mnemonic g) (he : exec i = shiftMem g f)
  | count {d} (hd : CountRow i.mnemonic d) (he : exec i = stepMem d f)

/-- The other shapes are of modes no memory form has, or are among the six meanings outside the shared operations,
none of which has a form. -/
theorem exec_memShape {i : Instr} {f : MemForm} (hf : Instr.memForm i = some f) : MemShape i f := by
  have hmode := Instr.mode_of_memForm hf
  have hform {g : MemForm} (hg : Instr.memForm i = some g) : g = f := Option.some.inj (hg.symm.trans hf)
  cases exec_shape i with
  | read hm hk hg he => exact .read (hm ▸ hk) (hform hg ▸ he)
  | store hm hv hg he => exact .store (hm ▸ hv) (hform hg ▸ he)
  | shiftMem hm hr hg he => exact .shift (hm ▸ hr) (hform hg ▸ he)
  | stepMem hm hd hg he => exact .count (hm ▸ hd) (hform hg ▸ he)
  | immediate _ _ _ hi | shiftAcc _ _ hi | implied _ _ hi | branch _ _ _ hi =>
    rw [hi] at hmode
    cases f <;> cases hmode
  | jmpAbs _ hi | jmpInd _ hi | jsr _ hi | rts hi | brk hi | rti hi =>
    subst hi
    cases hf

/-! ### A load after a store (R52, R63) -/

theorem OperandRow.registerOf_eq {m : Mnemonic} {k : Byte → State → State} (hk : OperandRow m k)
    (hm : m ∈ [.lda, .ldx, .ldy]) (b : Byte) (s : State) : registerOf m (k b s) = b := by
  cases hk <;> simp [registerOf] at hm ⊢

theorem StoreRow.registerOf_eq {m : Mnemonic} {v : State → Byte} (hv : StoreRow m v) (s : State) :
    registerOf m s = v s := by
  cases hv <;> simp [registerOf]

/-- A store to RAM, as one update. -/
theorem exec_store_ram {i : Instr} {f : MemForm} {s t : State} (hm : i.mnemonic ∈ stores)
    (hf : Instr.memForm i = some f) (hram : s.kindOf (f.ea s) = .ram) (h : exec i s = .next t) :
    t = { s.advance f.length with mem := s.mem.write (f.ea s) (registerOf i.mnemonic s) } := by
  cases exec_memShape hf with
  | read hk => exact absurd (memoryWriters_eq ▸ List.mem_append_left _ hm) hk.not_mem_memoryWriters
  | shift hg => exact (stores_disjoint_modifiers hm hg.mem_modifiers).elim
  | count hd => exact (stores_disjoint_modifiers hm hd.mem_modifiers).elim
  | store hv he =>
    rw [he, storeOp_next] at h
    rw [h.2, State.writeByte_ram _ (by rwa [State.kindOf_advance]), hv.registerOf_eq]
    rfl

/-- A load that is not refused gives its register the byte read. -/
theorem exec_load {i : Instr} {f : MemForm} {s : State} (hm : i.mnemonic ∈ [.lda, .ldx, .ldy])
    (hf : Instr.memForm i = some f) (hr : f.refuses s = false) :
    ∃ t, exec i s = .next t ∧ registerOf i.mnemonic t = (s.readByte (f.ea s)).1 := by
  cases exec_memShape hf with
  | store hv => exact (loads_disjoint_memoryWriters hm hv.mem_memoryWriters).elim
  | shift hg => exact (loads_disjoint_memoryWriters hm hg.mem_memoryWriters).elim
  | count hd => exact (loads_disjoint_memoryWriters hm hd.mem_memoryWriters).elim
  | read hk he => exact ⟨_, by rw [he, readOp_eq _ hr], hk.registerOf_eq hm _ _⟩

/-- Settles O11. The store is one write to memory and leaves the map alone, so the load reads what that write makes
of its address. -/
theorem loadReturnsTheLatestStore : Obligations.LoadReturnsTheLatestStore := by
  intro s t st ld f g hst hf hld hg hram hs hr
  obtain ⟨u, hu, hreg⟩ := exec_load hld hg hr
  have ht := exec_store_ram hst hf hram hs
  have hmem : t.mem = s.mem.write (f.ea s) (registerOf st.mnemonic s) := by rw [ht]
  have hkind (a : Word) : t.kindOf a = s.kindOf a := State.kindOf_congr (by rw [ht]; rfl) a
  refine ⟨u, hu, fun hsame => ?_, fun hother hbacked => ?_⟩
  · rw [hreg, State.readByte_backed (.inl (by rw [hkind, hsame, hram])), hmem, hsame, Memory.read_write_same]
  · rw [hreg, State.readByte_backed (by rwa [hkind]), hmem, Memory.read_write_of_ne _ _ hother]

end Sys2Proof.Machine
end

section
/-! Which instructions are refused, and where (R69). -/

namespace Sys2Proof.Machine

open Claims

/-! ### The shared operations -/

theorem MemForm.hitsDevice_iff (f : MemForm) (s : State) :
    f.hitsDevice s = true ↔ s.kindOf (f.ea s) = .io ∨ s.kindOf (join (hi (f.base s)) (lo (f.ea s))) = .io := by
  simp [MemForm.hitsDevice, MemForm.uncarried]

theorem MemForm.refuses_iff (f : MemForm) (s : State) :
    f.refuses s = true ↔ f.hitsDevice s = true ∧ f.mode ∉ [.zp, .abs] := by
  cases f <;> simp [MemForm.refuses, MemForm.plain, MemForm.mode]

theorem readOp_refused {k : Byte → State → State} {f : MemForm} {s : State} :
    (∃ r, readOp k f s = .refused r) ↔ f.refuses s = true := by
  cases h : f.refuses s <;> simp [readOp, h]

theorem storeOp_refused {v : State → Byte} {f : MemForm} {s : State} :
    (∃ r, storeOp v f s = .refused r) ↔ f.refuses s = true := by
  cases h : f.refuses s <;> simp [storeOp, h]

theorem modifyOp_refused {α : Type} {g : State → Byte → α} {byte : α → Byte} {k : State → α → State}
    {f : MemForm} {s : State} : (∃ r, modifyOp g byte k f s = .refused r) ↔ f.hitsDevice s = true := by
  cases h : f.hitsDevice s <;> simp [modifyOp, h]

/-! ### The instructions with a byte of memory as their operand -/

/-- Such an instruction is refused on a device, but for a plain read or write. -/
theorem exec_refused_iff_of_memForm {i : Instr} {f : MemForm} (hf : Instr.memForm i = some f) (s : State) :
    (∃ r, exec i s = .refused r) ↔
      f.hitsDevice s = true ∧ (i.mode ∉ [.zp, .abs] ∨ i.mnemonic ∈ modifiers) := by
  rw [Instr.mode_of_memForm hf]
  cases exec_memShape hf with
  | read hk he =>
    have hm : i.mnemonic ∉ modifiers := fun h =>
      hk.not_mem_memoryWriters (memoryWriters_eq ▸ List.mem_append_right _ h)
    rw [he, readOp_refused, MemForm.refuses_iff, or_iff_left hm]
  | store hv he =>
    have hm : i.mnemonic ∉ modifiers := fun h => stores_disjoint_modifiers hv.mem_stores h
    rw [he, storeOp_refused, MemForm.refuses_iff, or_iff_left hm]
  | shift hg he =>
    rw [he, shiftMem, modifyOp_refused, and_iff_left (.inr hg.mem_modifiers)]
  | count hd he =>
    rw [he, stepMem, modifyOp_refused, and_iff_left (.inr hd.mem_modifiers)]

/-! ### JMP Indirect (R97, R181) -/

theorem vectorHighAddr_eq (w : Word) :
    vectorHighAddr w = BitVec.ofNat 16 (w.toNat / 256 * 256 + (w.toNat + 1) % 256) := by
  have := w.isLt
  apply BitVec.eq_of_toNat_eq
  simp [vectorHighAddr, BitVec.toNat_add]
  omega

theorem exec_jmpInd_refused_iff (w : Word) (s : State) :
    (∃ r, exec (.jmpInd w) s = .refused r) ↔ s.kindOf w = .io ∨ s.kindOf (vectorHighAddr w) = .io := by
  by_cases h : s.kindOf w = .io ∨ s.kindOf (vectorHighAddr w) = .io
  · rw [exec_jmpInd, if_pos (by simpa using h)]
    simp [h]
  · rw [exec_jmpInd, if_neg (by simpa using h)]
    simp [h]

/-! ### Branches (R96, R170) -/

theorem branchTarget_eq (a : Word) (d : Byte) :
    branchTarget a d = BitVec.ofInt 16 ((a.toNat : Int) + 2 + d.toInt) := by
  simp [branchTarget, sext16, BitVec.ofInt_add]

theorem State.branchHitsDevice_iff (s : State) (d : Byte) :
    s.branchHitsDevice d = true ↔ crossesToDevice s (branchTarget s.pc d) := by
  simp [State.branchHitsDevice, crossesToDevice, branchUncarried]

/-- A row of the branches is a conditional branch on the row's condition. -/
theorem exec_of_mem_branches {i : Instr} {taken : Bool} {d : Byte} {s : State} (h : (i, taken) ∈ branches d s) :
    exec i s = branchOp (fun _ => taken) d s := by
  have hrow : ∀ p ∈ branches d s, exec p.1 s = branchOp (fun _ => p.2) d s := by
    rw [← List.forall_iff_forall_mem]
    exact ⟨rfl, rfl, rfl, rfl, rfl, rfl, rfl, rfl⟩
  exact hrow _ h

/-- Every instruction in relative mode is one of the branches. -/
theorem exists_mem_branches {i : Instr} (h : i.mode = .rel) (s : State) :
    ∃ d taken, (i, taken) ∈ branches d s := by
  cases i with
  | bpl d | bmi d | bvc d | bvs d | bcc d | bcs d | bne d | beq d => exact ⟨d, _, by simp [branches]; rfl⟩
  | _ => cases h

theorem exec_refused_iff_of_mem_branches {i : Instr} {taken : Bool} {d : Byte} {s : State}
    (h : (i, taken) ∈ branches d s) :
    (∃ r, exec i s = .refused r) ↔ taken = true ∧ crossesToDevice s (branchTarget s.pc d) := by
  rw [exec_of_mem_branches h, ← State.branchHitsDevice_iff]
  simp [branchOp_refused]

/-! ### All instructions -/

/-- Settles O51. By shape: an instruction that can be refused has a memory form, is JMP Indirect, or is a branch. -/
theorem refusedExactlyOnDevices : Obligations.RefusedExactlyOnDevices := by
  intro i s
  simp only [← MemForm.hitsDevice_iff, ← vectorHighAddr_eq, ← branchTarget_eq]
  constructor
  · rintro ⟨r, hr⟩
    cases exec_shape i with
    | read _ _ hf | store _ _ hf | shiftMem _ _ hf | stepMem _ _ hf =>
      exact .inl ⟨_, hf, (exec_refused_iff_of_memForm hf s).1 ⟨r, hr⟩⟩
    | jmpInd w hi =>
      subst hi
      exact .inr (.inl ⟨w, rfl, (exec_jmpInd_refused_iff w s).1 ⟨r, hr⟩⟩)
    | branch _ _ _ hmode =>
      obtain ⟨d, taken, hb⟩ := exists_mem_branches hmode s
      obtain ⟨rfl, hcross⟩ := (exec_refused_iff_of_mem_branches hb).1 ⟨r, hr⟩
      exact .inr (.inr ⟨d, hb, hcross⟩)
    | immediate _ _ _ _ he | shiftAcc _ _ _ he | implied _ _ _ he =>
      rw [he] at hr
      cases hr
    | jmpAbs _ hi | jsr _ hi | rts hi | brk hi | rti hi =>
      subst hi
      cases hr
  · rintro (⟨f, hf, hdev⟩ | ⟨w, rfl, hdev⟩ | ⟨d, hb, hcross⟩)
    · exact (exec_refused_iff_of_memForm hf s).2 hdev
    · exact (exec_jmpInd_refused_iff w s).2 hdev
    · exact (exec_refused_iff_of_mem_branches hb).2 ⟨rfl, hcross⟩

end Sys2Proof.Machine
end

section
/-! The map and the bytes outside RAM, which no step changes (R57). -/

namespace Sys2Proof.Machine

open Claims Safety

/-- `t` has the map of `s`, and outside RAM every address holds what it held. -/
structure KeepsRom (s t : State) : Prop where
  regions : t.regions = s.regions
  read : ∀ a : Word, s.kindOf a ≠ .ram → t.mem.read a = s.mem.read a

theorem KeepsRom.kindOf {s t : State} (h : KeepsRom s t) (a : Word) : t.kindOf a = s.kindOf a :=
  State.kindOf_congr h.regions a

theorem KeepsRom.of_mem {s t : State} (hreg : t.regions = s.regions) (hmem : t.mem = s.mem) : KeepsRom s t :=
  ⟨hreg, fun _ _ => by rw [hmem]⟩

theorem KeepsRom.trans {s t u : State} (hst : KeepsRom s t) (htu : KeepsRom t u) : KeepsRom s u :=
  ⟨htu.regions.trans hst.regions, fun a ha => by rw [htu.read a (by rwa [hst.kindOf]), hst.read a ha]⟩

/-! ### Entries and the fetch -/

@[simp] theorem State.kindOf_stackCell (s : State) (p : Byte) : s.kindOf (stackCell p) = .ram := by
  simp [stackCell_eq_stackAddr]

/-- An entry writes the stack, which is RAM (R58, R225). -/
theorem State.enter_keepsRom (s : State) (ret vec : Word) (brk : Bool) : KeepsRom s (s.enter ret vec brk) := by
  refine ⟨s.enter_regions .., fun a ha => ?_⟩
  by_contra hne
  have hcell := State.enter_read_ne hne
  simp only [List.mem_cons, List.not_mem_nil, or_false] at hcell
  rcases hcell with rfl | rfl | rfl <;> simp at ha

@[simp] theorem State.resetEntry_regions (s : State) : s.resetEntry.regions = s.regions := by
  simp [State.resetEntry]

theorem readFrom_regions (n : Nat) (a : Word) (s : State) : (readFrom n a s).2.regions = s.regions := by
  induction n generalizing a s with
  | zero => rfl
  | succ n ih => simp [readFrom, ih]

theorem State.fetch_keepsRom {s u : State} {i : Instr} (h : s.fetch = .ok (i, u)) : KeepsRom s u := by
  obtain ⟨-, rfl⟩ := (s.fetch_eq_ok_iff_decode u i).1 h
  exact .of_mem (readFrom_regions ..) (readFrom_mem ..)

/-! ### Instructions -/

theorem OperandRow.regions_eq {m : Mnemonic} {k : Byte → State → State} (hk : OperandRow m k) (v : Byte)
    (u : State) : (k v u).regions = u.regions := by cases hk <;> simp

theorem ImpliedRow.regions_eq {m : Mnemonic} {k : State → State} (hk : ImpliedRow m k) (u : State) :
    (k u).regions = u.regions := by cases hk <;> simp

/-- No instruction changes the map, by shape. -/
theorem exec_regions {i : Instr} {s t : State} (h : exec i s = .next t) : t.regions = s.regions := by
  cases exec_shape i with
  | read hm hk hf he =>
    rw [he, readOp_next] at h
    obtain ⟨-, rfl⟩ := h
    simp [hk.regions_eq]
  | immediate v hm hk hmode he =>
    rw [he, immOp_next] at h
    simp [h, hk.regions_eq]
  | store hm hv hf he =>
    rw [he, storeOp_next] at h
    obtain ⟨-, rfl⟩ := h
    simp
  | shiftMem hm hg hf he =>
    rw [he, shiftMem_next] at h
    obtain ⟨-, rfl⟩ := h
    simp
  | shiftAcc hm hg hmode he =>
    rw [he, shiftAcc_next] at h
    simp [h]
  | stepMem hm hd hf he =>
    rw [he, stepMem_next] at h
    obtain ⟨-, rfl⟩ := h
    simp
  | implied hm hk hmode he =>
    rw [he, impliedOp_next] at h
    simp [h, hk.regions_eq]
  | branch disp hm hc hmode he =>
    rw [he, branchOp_next] at h
    obtain ⟨-, -, rfl⟩ | ⟨-, rfl⟩ := h <;> simp
  | jmpAbs w hi =>
    subst hi
    simp [exec_jmpAbs_next.1 h]
  | jmpInd w hi =>
    subst hi
    obtain ⟨-, rfl⟩ := exec_jmpInd_next.1 h
    simp
  | jsr w hi =>
    subst hi
    simp [exec_jsr_next.1 h]
  | rts hi =>
    subst hi
    simp [exec_rts_next.1 h]
  | brk hi =>
    subst hi
    simp [exec_brk_next.1 h]
  | rti hi =>
    subst hi
    simp [exec_rti_next.1 h, State.returnFromException_eq]

/-- A byte outside RAM is none of those an instruction may change. -/
theorem MemoryEffect.read_of_not_ram {i : Instr} {s : State} {m : Memory} (h : MemoryEffect i s m) {a : Word}
    (ha : s.kindOf a ≠ .ram) : m.read a = s.mem.read a := by
  have hcell (p : Byte) : a ≠ stackCell p := by rintro rfl; simp at ha
  cases h with
  | unchanged h => rw [h]
  | operand _ _ b h => rw [h, State.writeByte_mem_read_of_not_ram _ _ _ ha]
  | push _ b h => rw [h, Memory.read_write_of_ne _ _ (stackCell_eq_stackAddr _ ▸ hcell _)]
  | call _ w h =>
    by_contra hne
    rcases State.pushWord_read_ne (h ▸ hne) with hw | hw <;> exact hcell _ hw
  | enter _ ret vec brk h => rw [h, (s.enter_keepsRom ret vec brk).read a ha]

theorem exec_keepsRom {i : Instr} {s t : State} (h : exec i s = .next t) : KeepsRom s t :=
  ⟨exec_regions h, fun _ ha => (exec_memory h).read_of_not_ram ha⟩

/-! ### Steps and runs -/

/-- Sampling and recognition touch neither memory nor the map; then a reset, an entry, or a fetch and an
instruction. -/
theorem step_keepsRom {s t : State} (h : step s = .next t) : KeepsRom s t := by
  obtain ⟨e, u, hr, hstep⟩ := step_cases h
  have hsu : KeepsRom s u :=
    .of_mem (by simpa [hr] using s.sample.recognise_regions) (by simpa [hr] using s.sample.recognise_mem)
  refine hsu.trans ?_
  obtain ⟨-, ht⟩ | ⟨-, ht⟩ | ⟨-, ht⟩ | ⟨-, ht⟩ := hstep
  · cases ht
    exact .of_mem u.resetEntry_regions u.resetEntry_mem
  · cases ht
    have hlatch : KeepsRom u { u with nmiPending := false } := .of_mem rfl rfl
    exact hlatch.trans (State.enter_keepsRom ..)
  · cases ht
    exact u.enter_keepsRom ..
  · obtain ⟨i, v, hf, he⟩ := runInstruction_next.1 ht.symm
    exact (State.fetch_keepsRom hf).trans (exec_keepsRom he)

theorem keepsRom_of_reaches {s t : State} (h : Reaches s t) : KeepsRom s t := by
  induction h with
  | here s => exact .of_mem rfl rfl
  | step h _ ih => exact (step_keepsRom h).trans ih

/-- Settles O57. A ROM address is not RAM, so what every run keeps outside RAM covers it. -/
theorem romImageSurvivesEveryRun : Obligations.RomImageSurvivesEveryRun := by
  intro s t h a ha
  have hrom := keepsRom_of_reaches h
  exact ⟨by rw [hrom.kindOf, ha], hrom.read a (by simp [ha])⟩

end Sys2Proof.Machine
end

section
/-! The bytes of an instruction and back (R80 to R84, R98, R99): each row's op code is its instruction's own, so the
encoder undoes the decoder; each instruction's op code stands for it, so the decoder undoes the encoder. -/

namespace Sys2Proof

/-! ### Op codes and the rows of the opcode map (R98) -/

/-- Every instruction of the shape has the op code byte `n`. -/
def Shape.HasOpcode (n : Nat) : Shape → Prop
  | .one i => i.opcode.toNat = n
  | .two f => ∀ b, (f b).opcode.toNat = n
  | .three f => ∀ w, (f w).opcode.toNat = n

/-- The opcode map and the rules' own Encoding tables agree: a row stands under the op code of the instruction it
names. -/
theorem opcodeTable_hasOpcode : ∀ p ∈ opcodeTable, p.2.HasOpcode p.1 := by
  -- one goal per row; the op code of the row's constructor is read off its table by computation
  rw [← List.forall_iff_forall_mem]
  repeat' (first | apply And.intro | exact fun _ => rfl | rfl)

theorem Shape.HasOpcode.opcode_eq {n : Nat} {sh : Shape} (h : sh.HasOpcode n) {fld : Field} {i : Instr}
    (hi : sh.apply fld = some i) : i.opcode.toNat = n := by
  cases sh with
  | one j => obtain ⟨rfl, rfl⟩ := (Shape.apply_one_eq_some ..).1 hi; exact h
  | two f => obtain ⟨b, rfl, rfl⟩ := (Shape.apply_two_eq_some ..).1 hi; exact h b
  | three f => obtain ⟨w, rfl, rfl⟩ := (Shape.apply_three_eq_some ..).1 hi; exact h w

/-- An op code that stands for an instruction is the instruction's own. -/
theorem Denotes.opcode_eq {opc : Byte} {fld : Field} {i : Instr} (h : Denotes opc fld i) : opc = i.opcode := by
  obtain ⟨sh, hsh, hi⟩ := h
  obtain ⟨l₁, l₂, hl, -⟩ := List.lookup_eq_some_iff.1 hsh
  have hrow : sh.HasOpcode opc.toNat := opcodeTable_hasOpcode (opc.toNat, sh) (by simp [hl])
  exact BitVec.eq_of_toNat_eq (hrow.opcode_eq hi).symm

/-- No op code has two rows. -/
theorem opcodeTable_nodup : (opcodeTable.map Prod.fst).Nodup := by decide +kernel

/-- A row of the opcode map is what the decoder finds under its op code. -/
theorem decodeOpcode_of_mem {opc : Byte} {sh : Shape} (h : (opc.toNat, sh) ∈ opcodeTable) :
    decodeOpcode opc = some sh := by
  obtain ⟨l₁, l₂, hl⟩ := List.append_of_mem h
  have hnodup := opcodeTable_nodup
  rw [hl, List.map_append, List.nodup_append] at hnodup
  obtain ⟨-, -, hdisj⟩ := hnodup
  refine List.lookup_eq_some_iff.2 ⟨l₁, l₂, hl, fun p hp => ?_⟩
  simpa using (hdisj p.1 (List.mem_map_of_mem hp) opc.toNat (by simp)).symm

/-- The op codes with the high nibble `k` (R98). -/
def opcodeRow : Nat → List (Nat × Shape)
  | 0x0 => opcodeRow0 | 0x1 => opcodeRow1 | 0x2 => opcodeRow2 | 0x3 => opcodeRow3
  | 0x4 => opcodeRow4 | 0x5 => opcodeRow5 | 0x6 => opcodeRow6 | 0x7 => opcodeRow7
  | 0x8 => opcodeRow8 | 0x9 => opcodeRow9 | 0xA => opcodeRowA | 0xB => opcodeRowB
  | 0xC => opcodeRowC | 0xD => opcodeRowD | 0xE => opcodeRowE | 0xF => opcodeRowF
  | _ => []

theorem opcodeRow_subset (k : Nat) : opcodeRow k ⊆ opcodeTable := by
  intro p hp
  unfold opcodeRow at hp
  simp only [opcodeTable, List.mem_append]
  split at hp <;> simp_all

/-- To look an op code up, its own row of the map is enough. -/
theorem Denotes.of_row {opc : Byte} {fld : Field} {i : Instr}
    (h : ∃ sh, (opcodeRow (opc.toNat / 16)).lookup opc.toNat = some sh ∧ sh.apply fld = some i) :
    Denotes opc fld i := by
  obtain ⟨sh, h, hi⟩ := h
  obtain ⟨l₁, l₂, hl, -⟩ := List.lookup_eq_some_iff.1 h
  have hmem : (opc.toNat, sh) ∈ opcodeRow (opc.toNat / 16) := hl ▸ List.mem_append_right _ List.mem_cons_self
  exact ⟨sh, decodeOpcode_of_mem (opcodeRow_subset _ hmem), hi⟩

/-- The opcode map has a row for every instruction: constructor by constructor, the look-up of its op code in its
row computes to it. -/
theorem Instr.denotes_opcode (i : Instr) : Denotes i.opcode i.operand i := by
  cases i <;> dsimp only [Instr.opcode] <;> exact .of_row ⟨_, rfl, rfl⟩

/-- An op code stands for an instruction exactly when it is the instruction's own. -/
theorem denotes_iff_eq_opcode (opc : Byte) (i : Instr) : Denotes opc i.operand i ↔ opc = i.opcode :=
  ⟨Denotes.opcode_eq, fun h => h ▸ i.denotes_opcode⟩

/-- Bytes decode to an instruction and a rest exactly when they are the instruction's encoding and the rest. -/
theorem decode_eq_ok_iff (bytes rest : List Byte) (i : Instr) :
    decode bytes = .ok (i, rest) ↔ bytes = encode i ++ rest := by
  cases bytes with
  | nil => simp [decode, encode]
  | cons opc bytes => rw [decode_cons_eq_ok_iff, denotes_iff_eq_opcode, encode, List.cons_append, List.cons_eq_cons]

/-- Settles O1: every instruction has its row of the opcode map, under its own op code. -/
theorem decodeOfEncode : Obligations.DecodeOfEncode :=
  fun i rest => (decode_eq_ok_iff _ rest i).2 rfl

/-- Settles O2: every row of the opcode map stands under the op code of the instruction it names. -/
theorem encodeOfDecode : Obligations.EncodeOfDecode :=
  fun bytes rest i => (decode_eq_ok_iff bytes rest i).1

/-- Settles O5: each object code is what its instruction encodes to. -/
theorem writtenWordsDecode : Obligations.WrittenWordsDecode :=
  ⟨decodeOfEncode (.ldaZpx 0x80) [], decodeOfEncode (.ldaAbx 0x0080) [], decodeOfEncode (.bitAbs 0x20A2) [],
    decodeOfEncode (.ldaImm 12) [], decodeOfEncode (.jmpInd 0x5597) [], decodeOfEncode (.jsr 0x5597) [],
    decodeOfEncode (.styAbs 0x4400) [], decodeOfEncode (.eorAbs 0x4400) [], decodeOfEncode (.bvs 0x7F) [],
    decodeOfEncode .clv [], decodeOfEncode .brk []⟩

/-! ### Undefined op codes (R99) -/

/-- No op code has the low nibble 3, 7, B or F. -/
theorem mem_undefinedOpcodes_of_low_nibble (opc : Byte) (h : opc.toNat % 16 ∈ [0x3, 0x7, 0xB, 0xF]) :
    opc.toNat ∈ Claims.undefinedOpcodes := by
  -- a check of the 256 bytes
  revert opc
  decide +kernel

/-- Settles O3. An op code with no row is answered before the bytes after it are looked at. -/
theorem OpcodeMap.undefinedOpcodes : Obligations.UndefinedOpcodes := by
  refine ⟨rfl, fun opc rest => ⟨decodeOpcode_eq_none_iff opc, fun h => ?_, mem_undefinedOpcodes_of_low_nibble opc⟩⟩
  have hnone : decodeOpcode opc = none := (decodeOpcode_eq_none_iff opc).2 h
  simp [decode, hnone]

namespace Machine

open Claims Safety

/-- A boundary that brings no event, at an undefined op code, is the fault that names it and its address. -/
theorem step_eq_fault_of_undefined {s u : State} (h : s.sample.recognise = (.instruction, u))
    (hopc : (u.readByte u.pc).1.toNat ∈ undefinedOpcodes) :
    step s = .fault (.illegalOpcode (u.readByte u.pc).1 u.pc) := by
  have hfetch := (u.fetch_eq_error_iff _).2 ⟨rfl, (decodeOpcode_eq_none_iff _).2 hopc⟩
  rw [step_of_instruction h, runInstruction, hfetch]

/-- Settles O4. In RAM and ROM the byte read is the byte held. -/
theorem undefinedOpcodeStopsTheStep : Obligations.UndefinedOpcodeStopsTheStep := by
  intro s u h
  refine ⟨step_eq_fault_of_undefined h, fun hb hopc => ?_⟩
  have hread : (u.readByte u.pc).1 = u.mem.read u.pc := by rw [State.readByte_backed hb]
  rw [← hread] at hopc ⊢
  exact step_eq_fault_of_undefined h hopc

end Machine
end Sys2Proof
end

section
/-! A placed instruction is what the next step runs (R84, R252), and where a branch and a built return address lead
(R108, R109). -/

namespace Sys2Proof

/-- An instruction is at most three bytes long (R80). -/
theorem Instr.length_le_three (i : Instr) : i.length ≤ 3 := by
  unfold Instr.length
  cases i.mode <;> simp [Mode.length]

namespace Machine

open Claims Safety

/-! ### Placing bytes where a fetch finds them -/

@[simp] theorem State.placeByte_pc (s : State) (a : Word) (b : Byte) : (s.placeByte a b).pc = s.pc := rfl
@[simp] theorem State.placeByte_mem (s : State) (a : Word) (b : Byte) :
    (s.placeByte a b).mem = s.mem.write a b := rfl

/-- Nothing is requested of the machine, so a boundary brings the instruction at PC. -/
theorem State.recognise_of_quiet {s : State} (h : Quiet s) : s.sample.recognise = (.instruction, s) := by
  obtain ⟨hirq, hnmi, hreset, hinputs⟩ := h
  simp [State.sample, State.recognise, *]

theorem State.quiet_silence (s : State) : Quiet s.silence := ⟨rfl, rfl, rfl, rfl⟩

/-- A placed byte stands in RAM or ROM, and placing it takes no other address from there. -/
theorem State.backed_placeByte {s : State} {a a' : Word} (b : Byte) (h : a' = a ∨ Backed s a') :
    Backed (s.placeByte a b) a' := by
  by_cases ha : Backed s a
  · have hmap : (s.placeByte a b).regions = s.regions := if_pos (by simpa [Backed] using ha)
    have hs : Backed s a' := h.elim (fun heq => heq ▸ ha) id
    simpa only [Backed, State.kindOf_congr hmap] using hs
  · have hmap : (s.placeByte a b).regions = ⟨a.toNat, 1, .ram⟩ :: s.regions := if_neg (by simpa [Backed] using ha)
    rcases h with rfl | hs
    · exact .inl (by simp [State.kindOf, hmap, mapKind])
    · simp only [Backed, State.kindOf, hmap, mapKind] at hs ⊢
      split_ifs at hs ⊢ <;> simp_all

/-- Three bytes placed at PC are read there, all from RAM or ROM. -/
theorem State.placeBytes_spec (s : State) (b₀ b₁ b₂ : Byte) :
    let p := s.placeBytes [b₀, b₁, b₂]
    [p.mem.read p.pc, p.mem.read (p.pc + 1#16), p.mem.read (p.pc + 2#16)] = [b₀, b₁, b₂] ∧
      ∀ k < 3, Backed p (p.pc + BitVec.ofNat 16 k) := by
  have h01 : s.pc ≠ s.pc + 1#16 := by bv_omega
  have h02 : s.pc ≠ s.pc + 2#16 := by bv_omega
  have h12 : s.pc + 1#16 ≠ s.pc + 2#16 := by bv_omega
  refine ⟨by simp [State.placeBytes, Memory.read_write_of_ne, h01, h02, h12], fun k hk => ?_⟩
  simp only [State.placeBytes, State.placeByte_pc]
  interval_cases k
  · exact State.backed_placeByte _ (.inr (State.backed_placeByte _ (.inr (State.backed_placeByte _ (.inl (by simp))))))
  · exact State.backed_placeByte _ (.inr (State.backed_placeByte _ (.inl rfl)))
  · exact State.backed_placeByte _ (.inl rfl)

/-- Settles O7. The placed bytes are those the table's number decodes from, and they stand in RAM or ROM. -/
theorem placedInstructionRuns : Obligations.PlacedInstructionRuns := by
  intro s nbits w i hi
  have hquiet : Quiet (s.withFetchWord nbits w) := s.quiet_silence
  obtain ⟨hread, hbacked⟩ := s.silence.placeBytes_spec (BitVec.ofNat 8 (w % 2 ^ nbits))
    (BitVec.ofNat 8 (w % 2 ^ nbits / 256)) (BitVec.ofNat 8 (w % 2 ^ nbits / 65536))
  obtain ⟨rest, hdec⟩ : ∃ rest, decode (tableWordBytes nbits w) = .ok (i, rest) := by
    unfold decodeTableWord at hi
    split at hi <;> simp_all
  obtain ⟨hruns, -⟩ := stepRunsTheDecodedInstruction _ _ (State.recognise_of_quiet hquiet)
  refine hruns i rest ?_ (Laws.EncodesAtLength.all i).1 fun k hk => hbacked k ?_
  · exact hread ▸ hdec
  · exact Nat.lt_of_lt_of_le hk i.length_le_three

/-! ### Branches to a label (R96, R108, R170) -/

/-- A word is the extension of its low byte exactly when it is in the signed range of a byte. -/
theorem sext16_lo_eq_iff (d : Word) : sext16 (lo d) = d ↔ -128 ≤ d.toInt ∧ d.toInt < 128 := by
  rw [← BitVec.toInt_inj, sext16_toInt]
  simp only [BitVec.toInt_eq_toNat_cond, lo_toNat]
  have := d.isLt
  split <;> split <;> omega

/-- A label's displacement is the low byte of its distance from `a + 2`, where that byte extends to it. -/
theorem branchDisplacement_eq_some_iff (a label : Word) (d : Byte) :
    branchDisplacement a label = some d ↔
      sext16 (lo (label - (a + 2#16))) = label - (a + 2#16) ∧ lo (label - (a + 2#16)) = d := by
  simp [branchDisplacement]

/-- The displacement exists exactly in the range of a branch. -/
theorem branchDisplacement_isSome_iff (a label : Word) :
    (branchDisplacement a label).isSome ↔ ∃ k : Int, -126 ≤ k ∧ k ≤ 129 ∧ label = a + BitVec.ofInt 16 k := by
  simp only [Option.isSome_iff_exists, branchDisplacement_eq_some_iff, exists_and_left, exists_eq', and_true,
    sext16_lo_eq_iff]
  constructor
  · intro ⟨hlow, hhigh⟩
    refine ⟨(label - (a + 2#16)).toInt + 2, by omega, by omega, ?_⟩
    rw [BitVec.ofInt_add, BitVec.ofInt_toInt]
    bv_omega
  · rintro ⟨k, hlow, hhigh, rfl⟩
    have hdist : a + BitVec.ofInt 16 k - (a + 2#16) = BitVec.ofInt 16 (k - 2) := by
      have hadd : BitVec.ofInt 16 k = BitVec.ofInt 16 (k - 2) + 2#16 := by
        simpa using BitVec.ofInt_add (n := 16) (k - 2) 2
      rw [hadd]
      bv_omega
    have hk : (k - 2).bmod 65536 = k - 2 := Int.bmod_eq_of_le (by omega) (by omega)
    rw [hdist, BitVec.toInt_ofInt, hk]
    omega

/-- The displacement of a label is its distance from `a + 2` mod 256, and leads a branch to the label. -/
theorem branchTarget_of_branchDisplacement {a label : Word} {d : Byte} (h : branchDisplacement a label = some d) :
    branchTarget a d = label ∧ (d.toNat : Int) = ((label.toNat : Int) - (a.toNat + 2)) % 256 := by
  obtain ⟨hext, rfl⟩ := (branchDisplacement_eq_some_iff ..).1 h
  constructor
  · rw [branchTarget, hext]
    bv_omega
  · rw [lo_toNat, BitVec.toNat_sub, BitVec.toNat_add]
    have := label.isLt
    have := a.isLt
    simp
    omega

/-- Settles O8. The branch's target is the label, so its page crossing is the one the statement rules out. -/
theorem branchDisplacementReachesTheLabel : Obligations.BranchDisplacementReachesTheLabel := by
  refine fun a label => ⟨branchDisplacement_isSome_iff a label, fun d hd => ?_⟩
  obtain ⟨htarget, hbyte⟩ := branchTarget_of_branchDisplacement hd
  refine ⟨hbyte, ?_⟩
  rintro s rfl hcross i hi
  have hfree : s.branchHitsDevice d = false := by
    rw [← Bool.not_eq_true, State.branchHitsDevice_iff, htarget]
    exact hcross
  rw [exec_of_mem_branches hi, branchOp_taken rfl hfree, htarget]
  rfl

/-! ### A return address built by hand (R109, R184) -/

/-- A word pulled is the two bytes pushed last, the high one first. -/
theorem State.pullWord_of_pushed {u : State} {m : Memory} {p h l : Byte} (hsp : u.sp = p - 2#8)
    (hmem : u.mem = (m.write (stackAddr p) h).write (stackAddr (p - 1#8)) l) :
    u.pullWord = (join h l, { u with sp := p }) := by
  have hhigh : p - 2#8 + 2#8 = p := by bv_omega
  have hlow : p - 2#8 + 1#8 = p - 1#8 := by bv_omega
  have hne : stackAddr p ≠ stackAddr (p - 1#8) := by
    rw [ne_eq, stackAddr_inj]
    bv_omega
  simp [State.pullWord_eq, hsp, hmem, hhigh, hlow, Memory.read_write_of_ne _ _ hne]

/-- Settles O9. RTS pulls the word the two PHA pushed, and adds 1. -/
theorem falseReturnAddressReachesTheTarget : Obligations.FalseReturnAddressReachesTheTarget := by
  intro s target
  refine ⟨_, _, rfl, rfl, _, rfl, ?_⟩
  rw [State.pullWord_of_pushed (m := s.mem) (p := s.sp) (h := hi (falseReturnAddress target))
    (l := lo (falseReturnAddress target)) (by simp) (by simp)]
  simp [falseReturnAddress]

end Machine
end Sys2Proof
end

section
/-! Where a step can stop (R69, R99). -/

namespace Sys2Proof.Machine

open Claims Safety

/-! ### No instruction is a fault: the op code's fault is the fetch's (R99) -/

theorem readOp_ne_fault (k : Byte → State → State) (f : MemForm) (s : State) (r : Fault) :
    readOp k f s ≠ .fault r := by
  unfold readOp; split <;> simp

theorem storeOp_ne_fault (v : State → Byte) (f : MemForm) (s : State) (r : Fault) : storeOp v f s ≠ .fault r := by
  unfold storeOp; split <;> simp

theorem modifyOp_ne_fault {α : Type} (g : State → Byte → α) (byte : α → Byte) (k : State → α → State) (f : MemForm)
    (s : State) (r : Fault) : modifyOp g byte k f s ≠ .fault r := by
  unfold modifyOp; split <;> simp

theorem branchOp_ne_fault (cond : State → Bool) (disp : Byte) (s : State) (r : Fault) :
    branchOp cond disp s ≠ .fault r := by
  unfold branchOp; split_ifs <;> simp

theorem exec_ne_fault (i : Instr) (s : State) (r : Fault) : exec i s ≠ .fault r := by
  cases exec_shape i with
  | read _ _ _ he => rw [he]; apply readOp_ne_fault
  | store _ _ _ he => rw [he]; apply storeOp_ne_fault
  | shiftMem _ _ _ he | stepMem _ _ _ he => rw [he]; apply modifyOp_ne_fault
  | branch _ _ _ _ he => rw [he]; apply branchOp_ne_fault
  | immediate _ _ _ _ he | shiftAcc _ _ _ he | implied _ _ _ he => rw [he]; exact nofun
  | jmpInd w hi =>
    subst hi
    rw [exec_jmpInd]
    split <;> simp
  | jmpAbs _ hi | jsr _ hi | rts hi | brk hi | rti hi =>
    subst hi
    exact nofun

/-! ### Without side-effecting devices every instruction goes on (R69) -/

/-- A refusal names a device with side effects, and there is none. -/
theorem exec_not_refused {s : State} (h : NoDevices s) (i : Instr) (r : Refusal) : exec i s ≠ .refused r := by
  intro hr
  rcases (refusedExactlyOnDevices i s).1 ⟨r, hr⟩ with ⟨_, -, hdev, -⟩ | ⟨_, -, hdev⟩ | ⟨_, -, -, hdev⟩
  · exact hdev.elim (h.kindOf_ne_io _) (h.kindOf_ne_io _)
  · exact hdev.elim (h.kindOf_ne_io _) (h.kindOf_ne_io _)
  · exact h.kindOf_ne_io _ hdev

theorem exec_next_of_noDevices {s : State} (h : NoDevices s) (i : Instr) : ∃ t, exec i s = .next t := by
  cases he : exec i s with
  | next t => exact ⟨t, rfl⟩
  | fault r => exact absurd he (exec_ne_fault i s r)
  | refused r => exact absurd he (exec_not_refused h i r)

/-! ### The step -/

/-- What the instruction at PC comes to: it goes on, or its op code is undefined. -/
theorem runInstruction_of_noDevices {s : State} (h : NoDevices s) :
    (∃ t, runInstruction s = .next t) ∨
      ∃ opc a, runInstruction s = .fault (.illegalOpcode opc a) ∧ opc.toNat ∈ undefinedOpcodes := by
  cases hf : s.fetch with
  | error opc =>
    obtain ⟨-, hnone⟩ := (s.fetch_eq_error_iff opc).1 hf
    exact .inr ⟨opc, s.pc, by rw [runInstruction, hf], (decodeOpcode_eq_none_iff opc).1 hnone⟩
  | ok p =>
    obtain ⟨i, u⟩ := p
    obtain ⟨t, ht⟩ := exec_next_of_noDevices (h.of_regions (State.fetch_keepsRom hf).regions) i
    exact .inl ⟨t, runInstruction_next.2 ⟨i, u, hf, ht⟩⟩

theorem step_of_noDevices {s : State} (h : NoDevices s) :
    (∃ t, step s = .next t) ∨
      ∃ opc a, step s = .fault (.illegalOpcode opc a) ∧ opc.toNat ∈ undefinedOpcodes := by
  obtain ⟨e, u, hr, hstep⟩ := step_cases (s := s) rfl
  obtain ⟨-, hstep⟩ | ⟨-, hstep⟩ | ⟨-, hstep⟩ | ⟨-, hstep⟩ := hstep
  · exact .inl ⟨_, hstep⟩
  · exact .inl ⟨_, hstep⟩
  · exact .inl ⟨_, hstep⟩
  · rw [hstep]
    exact runInstruction_of_noDevices (h.of_regions (by simpa [hr] using s.sample.recognise_regions))

/-- Settles O53. No step changes the map, so a next state is without such devices again. -/
theorem stepStopsOnlyOnUndefinedOpcodes : Obligations.StepStopsOnlyOnUndefinedOpcodes := by
  intro s h
  rcases step_of_noDevices h with ⟨t, ht⟩ | hfault
  · exact .inl ⟨t, ht, h.of_regions (step_keepsRom ht).regions⟩
  · exact .inr hfault

end Sys2Proof.Machine
end

section
/-! Cycle counts of the indexed reads (R264, R265). -/

namespace Sys2Proof.Machine

/-- Adding an index changes the page exactly when it carries out of the low byte (R264). -/
theorem hi_add_zext16_ne_iff (w : Word) (b : Byte) : hi (w + zext16 b) ≠ hi w ↔ 256 ≤ (lo w).toNat + b.toNat := by
  have hw := w.isLt
  have hb := b.isLt
  rw [ne_eq, ← BitVec.toNat_inj, hi_toNat, hi_toNat, lo_toNat, BitVec.toNat_add, zext16_toNat]
  omega

theorem MemForm.crosses_abx_iff (w : Word) (s : State) :
    (MemForm.abx w).crosses s = true ↔ 256 ≤ (lo w).toNat + s.x.toNat :=
  bne_iff_ne.trans (hi_add_zext16_ne_iff w s.x)

theorem MemForm.crosses_aby_iff (w : Word) (s : State) :
    (MemForm.aby w).crosses s = true ↔ 256 ≤ (lo w).toNat + s.y.toNat :=
  bne_iff_ne.trans (hi_add_zext16_ne_iff w s.y)

theorem MemForm.crosses_izy_iff (b : Byte) (s : State) :
    (MemForm.izy b).crosses s = true ↔ 256 ≤ (s.mem.read (zext16 b)).toNat + s.y.toNat := by
  have hlow : lo (s.readZpWord b) = s.mem.read (zext16 b) := lo_join ..
  rw [← hlow]
  exact bne_iff_ne.trans (hi_add_zext16_ne_iff (s.readZpWord b) s.y)

/-- An instruction with a byte of memory as its operand is no branch (R96). -/
theorem branchCycles_of_memForm {i : Instr} {f : MemForm} (hf : Instr.memForm i = some f) (s : State) :
    branchCycles i s = 0 := by
  have hmode : i.mode ≠ .rel := by
    rw [Instr.mode_of_memForm hf]
    cases f <;> simp [MemForm.mode]
  unfold branchCycles
  split
  · contradiction
  · rfl

/-- A row of the form `f` with TIM `n+`. -/
def PlusRow (f : MemForm) (n : Nat) (i : Instr) : Prop := Instr.memForm i = some f ∧ Instr.tim i = (n, true)

/-- Such rows take one cycle more than their TIM when the form crosses a page (R264, R265). -/
theorem cycles_of_plusRow {l : List Instr} {f : MemForm} {n : Nat} {s : State} {p : Prop} [Decidable p]
    (hrows : l.Forall (PlusRow f n)) (hp : f.crosses s = true ↔ p) :
    ∀ i ∈ l, cycles i s = if p then n + 1 else n := by
  intro i hi
  obtain ⟨hf, ht⟩ := List.forall_iff_forall_mem.1 hrows i hi
  by_cases h : p <;> simp [cycles, ht, crossingCycles, hf, branchCycles_of_memForm hf, hp, h]

/-- Settles O58, mode by mode: each row has the mode's TIM, and the mode says when its form crosses. -/
theorem pageCrossingCycles : Obligations.PageCrossingCycles := by
  intro s w b
  refine ⟨cycles_of_plusRow ?abx (MemForm.crosses_abx_iff w s), cycles_of_plusRow ?aby (MemForm.crosses_aby_iff w s),
    cycles_of_plusRow ?izy (MemForm.crosses_izy_iff b s), rfl, rfl, rfl⟩
  case abx | aby | izy => simp [PlusRow, Instr.memForm, Instr.mnemonic, Instr.mode, Instr.operand, Instr.tim]

end Sys2Proof.Machine
end

section
/-! What D reaches: every instruction but ADC, SBC, PHP and BRK makes the same of two states that differ in D alone
(R102, R196). -/

namespace Sys2Proof.Machine

open Claims

/-- The state with another D. -/
def State.setD (s : State) (d : Bool) : State := { s with fD := d }

/-- The outcome with another D in its next state. -/
def setDOut (d : Bool) : Out → Out
  | .next s => .next (s.setD d)
  | .fault r => .fault r
  | .refused r => .refused r

/-! ### The accesses do not see D -/

@[simp] theorem State.setD_fD (s : State) (d : Bool) : (s.setD d).fD = d := rfl
theorem State.setD_self (s : State) : s.setD s.fD = s := rfl

theorem State.setD_advance (s : State) (d : Bool) (n : Nat) : (s.setD d).advance n = (s.advance n).setD d := rfl

theorem State.setD_readByte (s : State) (d : Bool) (a : Word) :
    (s.setD d).readByte a = ((s.readByte a).1, (s.readByte a).2.setD d) := by
  have hkind : (s.setD d).kindOf a = s.kindOf a := rfl
  unfold State.readByte
  rw [hkind]
  split <;> rfl

theorem State.setD_writeByte (s : State) (d : Bool) (a : Word) (b : Byte) :
    (s.setD d).writeByte a b = (s.writeByte a b).setD d := by
  have hkind : (s.setD d).kindOf a = s.kindOf a := rfl
  unfold State.writeByte
  rw [hkind]
  split <;> rfl

theorem MemForm.ea_setD (f : MemForm) (s : State) (d : Bool) : f.ea (s.setD d) = f.ea s := by cases f <;> rfl

theorem MemForm.hitsDevice_setD (f : MemForm) (s : State) (d : Bool) : f.hitsDevice (s.setD d) = f.hitsDevice s := by
  cases f <;> rfl

theorem MemForm.refuses_setD (f : MemForm) (s : State) (d : Bool) : f.refuses (s.setD d) = f.refuses s := by
  cases f <;> rfl

/-! ### The shared operations do not see D unless their last part does -/

theorem readOp_setD {k : Byte → State → State} {d : Bool} (hk : ∀ v u, k v (u.setD d) = (k v u).setD d)
    (f : MemForm) (s : State) : readOp k f (s.setD d) = setDOut d (readOp k f s) := by
  simp only [readOp, MemForm.refuses_setD, MemForm.ea_setD, State.setD_advance, State.setD_readByte, hk]
  split <;> rfl

theorem storeOp_setD {v : State → Byte} {d : Bool} (hv : ∀ s, v (s.setD d) = v s) (f : MemForm) (s : State) :
    storeOp v f (s.setD d) = setDOut d (storeOp v f s) := by
  simp only [storeOp, MemForm.refuses_setD, MemForm.ea_setD, State.setD_advance, State.setD_writeByte, hv]
  split <;> rfl

theorem modifyOp_setD {α : Type} {g : State → Byte → α} {byte : α → Byte} {k : State → α → State} {d : Bool}
    (hg : ∀ s v, g (s.setD d) v = g s v) (hk : ∀ s r, k (s.setD d) r = (k s r).setD d) (f : MemForm) (s : State) :
    modifyOp g byte k f (s.setD d) = setDOut d (modifyOp g byte k f s) := by
  simp only [modifyOp, MemForm.hitsDevice_setD, MemForm.ea_setD, State.setD_advance, State.setD_readByte,
    State.setD_writeByte, hg, hk]
  split <;> rfl

theorem branchOp_setD {cond : State → Bool} {d : Bool} (hc : ∀ s, cond (s.setD d) = cond s) (disp : Byte)
    (s : State) : branchOp cond disp (s.setD d) = setDOut d (branchOp cond disp s) := by
  have hdev : (s.setD d).branchHitsDevice disp = s.branchHitsDevice disp := rfl
  simp only [branchOp, hc, hdev]
  split_ifs <;> rfl

/-! ### Row by row -/

theorem OperandRow.setD {m : Mnemonic} {k : Byte → State → State} (hk : OperandRow m k) (hm : m ∉ [.adc, .sbc])
    (d : Bool) (v : Byte) (u : State) : k v (u.setD d) = (k v u).setD d := by
  cases hk with
  | adc | sbc => simp at hm
  | _ => rfl

theorem StoreRow.setD {m : Mnemonic} {v : State → Byte} (hv : StoreRow m v) (d : Bool) (s : State) :
    v (s.setD d) = v s := by
  cases hv <;> rfl

theorem BranchRow.setD {m : Mnemonic} {cond : State → Bool} (hc : BranchRow m cond) (d : Bool) (s : State) :
    cond (s.setD d) = cond s := by
  cases hc <;> rfl

/-- The implied instructions leave D alone, or write it with a value of their own: CLD and SED a constant, PLP a bit of
the byte pulled. -/
theorem ImpliedRow.setD {m : Mnemonic} {k : State → State} (hk : ImpliedRow m k) (hm : m ≠ .php) :
    (∀ d u, k (u.setD d) = (k u).setD d) ∨ ∀ d u, k (u.setD d) = k u := by
  cases hk with
  | php => simp at hm
  | cld | sed => exact .inr fun _ _ => rfl
  | plp => exact .inr fun _ _ => by simp only [State.pull_eq]; rfl
  | pha => exact .inl fun _ _ => by simp only [State.push_eq]; rfl
  | pla => exact .inl fun _ _ => by simp only [State.pull_eq]; rfl
  | _ => exact .inl fun _ _ => rfl

/-! ### All instructions -/

/-- An instruction that is not among the readers of D carries D through, or does not look at it. -/
theorem exec_setD {i : Instr} (hm : i.mnemonic ∉ [.adc, .sbc, .php, .brk]) (s : State) :
    (∀ d, exec i (s.setD d) = setDOut d (exec i s)) ∨ ∀ d, exec i (s.setD d) = exec i s := by
  simp only [List.mem_cons, List.not_mem_nil, or_false, not_or] at hm
  obtain ⟨hadc, hsbc, hphp, hbrk⟩ := hm
  cases exec_shape i with
  | read hi hk hf he => exact .inl fun d => he ▸ readOp_setD (hk.setD (by simp [← hi, hadc, hsbc]) d) _ s
  | immediate v hi hk _ he =>
    refine .inl fun d => ?_
    simp only [he, immOp, State.setD_advance, hk.setD (by simp [← hi, hadc, hsbc]), setDOut]
  | store _ hv _ he => exact .inl fun d => he ▸ storeOp_setD (hv.setD d) _ s
  | shiftMem _ _ _ he => exact .inl fun d => he ▸ modifyOp_setD (fun _ _ => rfl) (fun _ _ => rfl) _ s
  | shiftAcc _ _ _ he => exact .inl fun d => he ▸ rfl
  | stepMem _ _ _ he => exact .inl fun d => he ▸ modifyOp_setD (fun _ _ => rfl) (fun _ _ => rfl) _ s
  | implied hi hk _ he =>
    rcases hk.setD (hi ▸ hphp) with hthrough | hblind
    · exact .inl fun d => by simp only [he, impliedOp, State.setD_advance, hthrough, setDOut]
    · exact .inr fun d => by simp only [he, impliedOp, State.setD_advance, hblind]
  | branch disp _ hc _ he => exact .inl fun d => he ▸ branchOp_setD (hc.setD d) disp s
  | jmpAbs w hi =>
    subst hi
    exact .inl fun _ => rfl
  | jmpInd w hi =>
    subst hi
    have hkind (d : Bool) (a : Word) : (s.setD d).kindOf a = s.kindOf a := rfl
    refine .inl fun d => ?_
    simp only [exec_jmpInd, hkind, State.setD_advance, State.setD_readByte]
    split <;> rfl
  | jsr w hi =>
    subst hi
    exact .inl fun d => by simp only [exec_jsr, State.pushWord_eq]; rfl
  | rts hi =>
    subst hi
    exact .inl fun d => by simp only [exec_rts, State.pullWord_eq]; rfl
  | brk hi =>
    subst hi
    exact absurd rfl hbrk
  | rti hi =>
    subst hi
    exact .inr fun d => by simp only [exec_rti, State.returnFromException_eq]; rfl

theorem sameButD_setDOut (d : Bool) (o : Out) : sameButD o (setDOut d o) := by cases o <;> rfl

theorem sameButD_refl (o : Out) : sameButD o o := by cases o <;> rfl

/-- Settles O52. An instruction that carries every D through carries the state's own, so it leaves D alone; one that does
not look at D ends in the same state. -/
theorem decimalFlagReadByAddAndSubtractOnly : Obligations.DecimalFlagReadByAddAndSubtractOnly := by
  intro i s d hm
  change sameButD (exec i s) (exec i (s.setD d)) ∧ ∀ t u, exec i s = .next t → exec i (s.setD d) = .next u → _
  rcases exec_setD hm s with hthrough | hblind
  · refine ⟨hthrough d ▸ sameButD_setDOut d _, fun t u ht hu => .inl ?_⟩
    have hown : t = t.setD s.fD := by simpa [State.setD_self, ht, setDOut] using hthrough s.fD
    have hother : t.setD d = u := by simpa [hu, ht, setDOut] using (hthrough d).symm
    exact ⟨by rw [hown, State.setD_fD], by rw [← hother, State.setD_fD]⟩
  · refine ⟨hblind d ▸ sameButD_refl _, fun t u ht hu => .inr ?_⟩
    rw [hblind, ht] at hu
    cases hu
    rfl

end Sys2Proof.Machine
end

section
/-! The loads and the stores, row by row (R121 to R126): what a row says of its bytes and its meaning, and what a
read or a store of a whole table of rows then does to the state. -/

namespace Sys2Proof.Machine

open Claims

/-! ### A row of an Encoding table (R81, R98, R265) -/

/-- The row is its instruction's: the op code, the TIM and the form are the instruction's own, and its meaning is the
shared operation `op` at that form. -/
structure MemRow.Means (op : MemForm → State → Out) (r : MemRow) : Prop where
  opcode : r.instr.opcode = r.opcode
  tim : Instr.tim r.instr = r.tim
  form : Instr.memForm r.instr = some r.form
  meaning : ∀ s, exec r.instr s = op r.form s

/-- The operand bytes of an instruction are those of its memory form (R81, R83). -/
theorem formBytes_of_memForm {i : Instr} {f : MemForm} (h : Instr.memForm i = some f) :
    i.operand.bytes = formBytes f := by
  unfold Instr.memForm at h
  split at h
  · cases h
  · split at h <;> cases h <;> simp [Field.bytes, formBytes, lo, hi, *]

/-- The op code and the form fix the bytes and the length. -/
theorem MemRow.Means.encoded {op : MemForm → State → Out} {r : MemRow} (h : MemRow.Means op r) : r.encoded :=
  ⟨by rw [encode, h.opcode, formBytes_of_memForm h.form], (MemForm.length_of_memForm h.form).symm, h.tim, h.form⟩

/-! ### Reads (R120) -/

/-- Moving past an instruction that read its operand. -/
theorem afterOperand_eq (s : State) (f : MemForm) :
    (s.readByte (f.ea s)).2.advance f.length = afterOperand s f := by
  rw [State.readByte_snd]
  rfl

/-- Every row of a table of reads computes from the operand byte, in a state that differs by the read alone. -/
theorem exec_of_readRows {l : List MemRow} {k : Byte → State → State} (hl : l.Forall (MemRow.Means (readOp k)))
    (s : State) :
    ∀ r ∈ l, r.encoded ∧ (r.form.refuses s = false →
      exec r.instr s = .next (k (operandByte s r.form) (afterOperand s r.form))) := by
  intro r hr
  have hrow := List.forall_iff_forall_mem.1 hl r hr
  refine ⟨hrow.encoded, fun hf => ?_⟩
  rw [hrow.meaning, readOp_eq k hf, afterOperand_eq]
  rfl

/-- Settles O14: the three immediate rows compute, and the other tables are reads with the three loads. -/
theorem loadResults : Obligations.LoadResults := by
  intro s v b w
  refine ⟨⟨rfl, rfl, rfl⟩, ⟨rfl, rfl, rfl⟩, ⟨rfl, rfl, rfl⟩, exec_of_readRows (k := State.loadA) ?lda s,
    exec_of_readRows (k := State.loadX) ?ldx s, exec_of_readRows (k := State.loadY) ?ldy s⟩
  case lda | ldx | ldy =>
    simp only [List.Forall]
    and_intros <;> exact ⟨rfl, rfl, rfl, fun _ => rfl⟩

/-! ### Stores (R120) -/

/-- A write is read back in RAM, and leaves every other address alone (R52, R57). -/
theorem State.writeByte_storesOnly (s : State) (a : Word) (b : Byte) : storesOnly s (s.writeByte a b) a b :=
  ⟨fun hram => by rw [State.writeByte_ram b hram, Memory.read_write_same],
    fun _ hne => s.writeByte_mem_read_of_ne b hne⟩

/-- Every row of a table of stores writes its byte at the effective address and moves past the instruction. -/
theorem exec_of_storeRows {l : List MemRow} {v : State → Byte} (hl : l.Forall (MemRow.Means (storeOp v)))
    (s : State) :
    ∀ r ∈ l, r.encoded ∧ (r.form.refuses s = false →
      exec r.instr s = .next { s.writeByte (r.form.ea s) (v s) with
        pc := s.pc + BitVec.ofNat 16 r.form.length, iBefore := s.fI } ∧
      storesOnly s (s.writeByte (r.form.ea s) (v s)) (r.form.ea s) (v s)) := by
  intro r hr
  have hrow := List.forall_iff_forall_mem.1 hl r hr
  refine ⟨hrow.encoded, fun hf => ⟨?_, s.writeByte_storesOnly _ _⟩⟩
  rw [hrow.meaning, storeOp_eq v hf]

/-- Settles O15: each table is stores of one register. -/
theorem storeResults : Obligations.StoreResults := by
  intro s b w
  refine ⟨exec_of_storeRows (v := State.a) ?sta s, exec_of_storeRows (v := State.x) ?stx s,
    exec_of_storeRows (v := State.y) ?sty s⟩
  case sta | stx | sty =>
    simp only [List.Forall]
    and_intros <;> exact ⟨rfl, rfl, rfl, fun _ => rfl⟩

end Sys2Proof.Machine
end

section
/-! Arithmetic and compares (R130 to R136): what the binary, the decimal and the NMOS computations answer as numbers,
and what ADC, SBC and the compares make of a state by them. -/

namespace Sys2Proof.Machine

open Claims

/-! ### Binary addition and subtraction (R130, R131) -/

/-- Bit 7 of a byte is its sign (R8). -/
theorem getLsbD_seven_eq_toInt_neg (b : Byte) : b.getLsbD 7 = decide (b.toInt < 0) := by
  rw [← BitVec.msb_eq_toInt, BitVec.msb_eq_getLsbD_last]

/-- A byte's signed value in terms of its unsigned one. -/
theorem toInt_eq_toNat_ite (b : Byte) : b.toInt = if b.toNat < 128 then (b.toNat : Int) else b.toNat - 256 := by
  rw [BitVec.toInt_eq_toNat_cond]
  split <;> split <;> omega

theorem xor_ff_eq_not (m : Byte) : m ^^^ 0xFF#8 = ~~~m := BitVec.xor_allOnes

theorem toInt_not_eq (m : Byte) : (~~~m).toInt = -m.toInt - 1 := by
  have hm : (~~~m).toNat = 255 - m.toNat := BitVec.toNat_not
  rw [toInt_eq_toNat_ite, toInt_eq_toNat_ite, hm]
  split <;> split <;> omega

theorem outsideSigned_eq (t : Int) : outsideSigned t = decide (t < -128 ∨ t > 127) := (Bool.decide_or ..).symm

/-- Subtracting is adding the complement, in the byte, the carry and the overflow: `-m - 1` is the signed value of the
complement, and `255 - m` its unsigned one. -/
theorem subBinary_eq_addBinary_not (a m : Byte) (c : Bool) : subBinary a m c = addBinary a (~~~m) c := by
  have hm : (~~~m).toNat = 255 - m.toNat := BitVec.toNat_not
  simp only [subBinary, addBinary, AluOut.mk.injEq, hm, toInt_not_eq]
  refine ⟨?result, ?carry, ?overflow⟩
  case result =>
    apply BitVec.eq_of_toNat_eq
    simp only [BitVec.toNat_ofInt, BitVec.toNat_ofNat]
    omega
  case carry => exact decide_eq_decide.2 (by omega)
  case overflow => congr 1; omega

/-- Read as signed, the byte of a sum is the signed sum up to a multiple of 256. -/
theorem addBinary_result_toInt (a m : Byte) (c : Bool) :
    ∃ k : Int, (addBinary a m c).result.toInt = a.toInt + m.toInt + c.toNat + 256 * k := by
  have hr : (addBinary a m c).result.toNat = (a.toNat + m.toNat + c.toNat) % 256 := BitVec.toNat_ofNat ..
  refine ⟨((addBinary a m c).result.toInt - (a.toInt + m.toInt + c.toNat)) / 256, ?_⟩
  simp only [toInt_eq_toNat_ite, hr]
  split_ifs <;> omega

/-- An addition overflows exactly when the operands have one sign and the result the other. -/
theorem addBinary_overflow (a m : Byte) (c : Bool) :
    (addBinary a m c).overflow =
      ((a ^^^ (addBinary a m c).result) &&& (m ^^^ (addBinary a m c).result)).getLsbD 7 := by
  obtain ⟨k, hk⟩ := addBinary_result_toInt a m c
  have hv : (addBinary a m c).overflow = decide (_ ∨ _) := outsideSigned_eq _
  rw [hv]
  generalize (addBinary a m c).result = r at hk
  have range (b : Byte) : -128 ≤ b.toInt ∧ b.toInt < 128 := ⟨BitVec.le_toInt b, BitVec.toInt_lt⟩
  have ha := range a
  have hm := range m
  have hr := range r
  have hc : c.toNat ≤ 1 := Bool.toNat_le c
  rw [BitVec.getLsbD_and, BitVec.getLsbD_xor, BitVec.getLsbD_xor, Bool.eq_iff_iff]
  simp only [getLsbD_seven_eq_toInt_neg, Bool.and_eq_true, bne_iff_ne, ne_eq, decide_eq_decide, decide_eq_true_eq]
  omega

/-- A subtraction overflows exactly when the operands have different signs and the result's is not A's: the rule of the
addition at the complement. -/
theorem subBinary_overflow (a m : Byte) (c : Bool) :
    (subBinary a m c).overflow = ((a ^^^ m) &&& (a ^^^ (subBinary a m c).result)).getLsbD 7 := by
  rw [subBinary_eq_addBinary_not, addBinary_overflow]
  generalize (addBinary a (~~~m) c).result = r
  simp only [BitVec.getLsbD_and, BitVec.getLsbD_xor, BitVec.getLsbD_not]
  cases a.getLsbD 7 <;> cases m.getLsbD 7 <;> cases r.getLsbD 7 <;> rfl

/-! ### Packed BCD (R132, R133) -/

theorem bcdValid_iff (b : Byte) : bcdValid b = true ↔ b.toNat / 16 ≤ 9 ∧ b.toNat % 16 ≤ 9 := by simp [bcdValid]

theorem bcdValue_lt_of_valid {b : Byte} (h : bcdValid b = true) : bcdValue b < 100 := by
  obtain ⟨hhigh, hlow⟩ := (bcdValid_iff b).1 h
  rw [bcdValue]
  omega

/-- The digits of a number below 100, packed. -/
theorem bcdByte_toNat {n : Nat} (h : n < 100) : (bcdByte n).toNat = n / 10 * 16 + n % 10 := by
  rw [bcdByte, BitVec.toNat_ofNat]
  omega

theorem bcdValid_bcdByte {n : Nat} (h : n < 100) : bcdValid (bcdByte n) = true := by
  rw [bcdValid_iff, bcdByte_toNat h]
  omega

theorem bcdValue_bcdByte {n : Nat} (h : n < 100) : bcdValue (bcdByte n) = n := by
  rw [bcdValue, bcdByte_toNat h]
  omega

theorem toNat_decide (p : Prop) [Decidable p] : (decide p).toNat = if p then 1 else 0 := by
  by_cases h : p <;> simp [h]

/-- The difference of two packed BCD bytes, taken plus 100 where it is negative. -/
theorem subDecimal_eq {a m : Byte} (ha : bcdValid a = true) (hm : bcdValid m = true) (c : Bool) :
    subDecimal a m c =
      (let n : Int := (bcdValue a : Int) - bcdValue m - (1 - c.toNat)
       (bcdByte (if n ≥ 0 then n else n + 100).toNat, decide (n ≥ 0))) := by
  have hc : c.toNat ≤ 1 := Bool.toNat_le c
  have ha_lt := bcdValue_lt_of_valid ha
  have hm_lt := bcdValue_lt_of_valid hm
  simp only [subDecimal]
  congr 3
  split <;> omega

/-- The decimal sum is a packed BCD byte, exact with its carry. -/
theorem addDecimal_exact {a m : Byte} (ha : bcdValid a = true) (hm : bcdValid m = true) (c : Bool) :
    bcdValid (addDecimal a m c).1 = true ∧
      bcdValue (addDecimal a m c).1 + 100 * (addDecimal a m c).2.toNat = bcdValue a + bcdValue m + c.toNat := by
  have hc : c.toNat ≤ 1 := Bool.toNat_le c
  have ha_lt := bcdValue_lt_of_valid ha
  have hm_lt := bcdValue_lt_of_valid hm
  have hn : (bcdValue a + bcdValue m + c.toNat) % 100 < 100 := Nat.mod_lt _ (by omega)
  refine ⟨bcdValid_bcdByte hn, ?_⟩
  simp only [addDecimal, bcdValue_bcdByte hn, toNat_decide]
  split <;> omega

/-- The decimal difference is a packed BCD byte, exact with its borrow. -/
theorem subDecimal_exact {a m : Byte} (ha : bcdValid a = true) (hm : bcdValid m = true) (c : Bool) :
    bcdValid (subDecimal a m c).1 = true ∧
      (bcdValue (subDecimal a m c).1 : Int) - 100 * (1 - (subDecimal a m c).2.toNat) =
        bcdValue a - bcdValue m - (1 - c.toNat) := by
  have hc : c.toNat ≤ 1 := Bool.toNat_le c
  have ha_lt := bcdValue_lt_of_valid ha
  have hm_lt := bcdValue_lt_of_valid hm
  have hn : (((bcdValue a : Int) - bcdValue m - (1 - c.toNat)) % 100).toNat < 100 := by omega
  refine ⟨bcdValid_bcdByte hn, ?_⟩
  simp only [subDecimal, bcdValue_bcdByte hn, toNat_decide]
  split <;> omega

/-! ### The NMOS algorithm on packed BCD operands (U6) -/

/-- Six more in the low digit is ten carried into the high one: the sum after both adjustments is the packed digits
of the exact sum, with its hundred as bit 8. -/
theorem nmosAddDecimal_sum {a m : Byte} (ha : bcdValid a = true) (hm : bcdValid m = true) (c : Bool) :
    ∃ r : Int, (nmosAddDecimal a m c).result = BitVec.ofInt 8 r ∧ (nmosAddDecimal a m c).carry = decide (256 ≤ r) ∧
      r = (bcdByte ((bcdValue a + bcdValue m + c.toNat) % 100)).toNat +
        256 * ((bcdValue a + bcdValue m + c.toNat) / 100 : Nat) := by
  obtain ⟨hah, hal⟩ := (bcdValid_iff a).1 ha
  obtain ⟨hmh, hml⟩ := (bcdValid_iff m).1 hm
  have hc : c.toNat ≤ 1 := Bool.toNat_le c
  have low_adjusted {low : Int} (h0 : 0 ≤ low) (h19 : low ≤ 19) :
      (if 10 ≤ low then (low + 6) % 16 + 16 else low) = low + 6 * (low / 10) := by split <;> omega
  refine ⟨_, rfl, rfl, ?_⟩
  unfold highDigit lowDigit bcdValue
  rw [bcdByte_toNat (Nat.mod_lt _ (by omega)), low_adjusted (by omega) (by omega)]
  split <;> omega

/-- Six less in the low digit is ten borrowed from the high one: the difference after both adjustments is the packed
digits of the exact difference, less 256 where it borrows. -/
theorem nmosSubDecimal_difference {a m : Byte} (ha : bcdValid a = true) (hm : bcdValid m = true) (c : Bool) :
    ∃ r : Int, (nmosSubDecimal a m c).result = BitVec.ofInt 8 r ∧
      r = (bcdByte (((bcdValue a : Int) - bcdValue m - (1 - c.toNat)) % 100).toNat).toNat +
        256 * (((bcdValue a : Int) - bcdValue m - (1 - c.toNat)) / 100) := by
  obtain ⟨hah, hal⟩ := (bcdValid_iff a).1 ha
  obtain ⟨hmh, hml⟩ := (bcdValid_iff m).1 hm
  have hc : c.toNat ≤ 1 := Bool.toNat_le c
  have low_adjusted {low : Int} (h10 : -10 ≤ low) (h9 : low ≤ 9) :
      (if low < 0 then (low - 6) % 16 - 16 else low) = low + 6 * (low / 10) := by split <;> omega
  refine ⟨_, rfl, ?_⟩
  unfold highDigit lowDigit bcdValue
  rw [bcdByte_toNat (by omega), low_adjusted (by omega) (by omega)]
  split <;> omega

/-- A number that differs from a byte by a multiple of 256 narrows to that byte. -/
theorem ofInt_toNat_add_mul (b : Byte) (k : Int) : BitVec.ofInt 8 (b.toNat + 256 * k) = b := by
  apply BitVec.eq_of_toNat_eq
  rw [BitVec.toNat_ofInt]
  omega

/-- Settles O37: the hundreds narrow away from the byte and are the carry; the binary carry of a subtraction compares
the operands as their packed digits do. -/
theorem nmosDecimalRefines : Obligations.NmosDecimalRefines := by
  intro a m c ha hm
  constructor
  · obtain ⟨r, hresult, hcarry, hr⟩ := nmosAddDecimal_sum ha hm c
    rw [hresult, hcarry, hr, ofInt_toNat_add_mul, addDecimal, Prod.mk.injEq, decide_eq_decide]
    exact ⟨rfl, by omega⟩
  · obtain ⟨r, hresult, hr⟩ := nmosSubDecimal_difference ha hm c
    rw [hresult, hr, ofInt_toNat_add_mul, subDecimal, Prod.mk.injEq]
    refine ⟨rfl, decide_eq_decide.2 ?_⟩
    obtain ⟨hah, hal⟩ := (bcdValid_iff a).1 ha
    obtain ⟨hmh, hml⟩ := (bcdValid_iff m).1 hm
    have hc : c.toNat ≤ 1 := Bool.toNat_le c
    unfold bcdValue
    omega

/-! ### ADC, SBC and the compares on a state (R130 to R136) -/

/-- ADC and SBC: what each does with its operand byte, and the binary and the decimal computation it does it by. -/
inductive AluRow : Mnemonic → (Byte → State → State) → (Byte → Byte → Bool → AluOut) →
    (Byte → Byte → Bool → Byte × Bool) → Prop
  | adc : AluRow .adc State.adc addBinary addDecimal
  | sbc : AluRow .sbc State.sbc subBinary subDecimal

section
variable {s u : State} {mn : Mnemonic} {k : Byte → State → State} {bin : Byte → Byte → Bool → AluOut}
  {dec : Byte → Byte → Bool → Byte × Bool}

theorem AluRow.operandRow (hk : AluRow mn k bin dec) : OperandRow mn k := by cases hk <;> constructor

/-- What an addition and a subtraction read of the state: A, C and D. Operand accesses leave all three. -/
structure SameInputs (s u : State) : Prop where
  a : u.a = s.a
  fC : u.fC = s.fC
  fD : u.fD = s.fD

theorem Advanced.sameInputs {i : Instr} (h : Advanced i s u) : SameInputs s u := by
  obtain ⟨_, _, _, rfl⟩ := h
  exact ⟨rfl, rfl, rfl⟩

theorem sameInputs_after (n : Nat) (s : State) : SameInputs s (after n s) := ⟨rfl, rfl, rfl⟩

theorem sameInputs_afterOperand (s : State) (f : MemForm) : SameInputs s (afterOperand s f) := ⟨rfl, rfl, rfl⟩

/-- With D = 0 the byte, the carry and the overflow are the binary computation's. -/
theorem AluRow.binary (hk : AluRow mn k bin dec) (h : SameInputs s u) (hD : s.fD = false) (m : Byte) :
    k m u = u.setAlu (bin s.a m s.fC) := by
  cases hk <;> simp [State.adc, State.sbc, h.a, h.fC, h.fD, hD]

/-- With D = 1 the end is the decimal computation's. -/
theorem AluRow.decimal (hk : AluRow mn k bin dec) (h : SameInputs s u) (hD : s.fD = true) (m : Byte) :
    k m u = u.setDecimal m (dec s.a m s.fC) := by
  cases hk <;> simp [State.adc, State.sbc, h.a, h.fC, h.fD, hD]

/-- On packed BCD operands a decimal operation gives its byte and its carry, and draws N, V and Z. -/
theorem State.setDecimal_of_valid {m : Byte} (ha : bcdValid u.a = true) (hm : bcdValid m = true) (r : Byte × Bool) :
    u.setDecimal m r = ({ u with a := r.1, fC := r.2 } : State).drawNVZ := by simp [State.setDecimal, ha, hm]

/-- On other operands it draws all that it sets. -/
theorem State.setDecimal_of_not_valid {m : Byte} (h : ¬ (bcdValid u.a = true ∧ bcdValid m = true)) (r : Byte × Bool) :
    u.setDecimal m r = u.drawAC.drawNVZ := by
  rw [State.setDecimal, if_neg (by simpa using h)]

/-- A decimal operation has the outcome that its rule determines. -/
theorem SameInputs.setDecimal_outcome (h : SameInputs s u) {m : Byte} {r : Byte × Bool} {n : Nat} {c : Bool}
    (hr : bcdValid s.a = true → bcdValid m = true → r = (bcdByte n, c)) :
    decimalOutcome s m n c u (u.setDecimal m r) := by
  refine ⟨fun ⟨ha, hm⟩ => ?_, fun hinvalid => ?_⟩
  · rw [State.setDecimal_of_valid (h.a ▸ ha) hm, hr ha hm]
    exact ⟨_, _, _, _, rfl⟩
  · rw [State.setDecimal_of_not_valid (h.a ▸ hinvalid)]
    exact ⟨_, _, _, _, _, _, rfl⟩

theorem borrow_eq (c : Bool) : (if c then 0 else 1 : Int) = 1 - c.toNat := by cases c <;> rfl

/-- Binary ADC is the addition of R130. -/
theorem SameInputs.added_eq (h : SameInputs s u) (hD : s.fD = false) (m : Byte) : added s m u = State.adc m u := by
  rw [AluRow.adc.binary h hD, added, ← outsideSigned_eq]
  rfl

/-- Binary SBC is the subtraction of R131. -/
theorem SameInputs.subtracted_eq (h : SameInputs s u) (hD : s.fD = false) (m : Byte) :
    subtracted s m u = State.sbc m u := by
  rw [AluRow.sbc.binary h hD, subtracted, borrow_eq, ← outsideSigned_eq]
  rfl

/-- Decimal ADC has the outcome of R132. -/
theorem SameInputs.decimalAdd (h : SameInputs s u) (hD : s.fD = true) (m : Byte) :
    decimalAdd s m u (State.adc m u) := by
  rw [AluRow.adc.decimal h hD]
  exact h.setDecimal_outcome fun _ _ => rfl

/-- Decimal SBC has the outcome of R133. -/
theorem SameInputs.decimalSub (h : SameInputs s u) (hD : s.fD = true) (m : Byte) :
    decimalSub s m u (State.sbc m u) := by
  rw [AluRow.sbc.decimal h hD, Claims.decimalSub, borrow_eq]
  exact h.setDecimal_outcome fun ha hm => subDecimal_eq ha hm s.fC

end

/-- The flags of a compare are those of R134: bit 7 of the difference says that it is 128 or more mod 256. -/
theorem compared_eq (r m : Byte) (u : State) : compared r m u = u.compare r m := by
  have hz : decide (r.toNat = m.toNat) = (r == m) := by
    rw [Bool.eq_iff_iff, decide_eq_true_iff, beq_iff_eq, BitVec.toNat_inj]
  have hn : decide (((r.toNat : Int) - m.toNat) % 256 ≥ 128) = (r - m).getLsbD 7 := by
    rw [show (r - m).getLsbD 7 = decide (128 ≤ (r - m).toNat) from BitVec.getLsbD_last _, BitVec.toNat_sub]
    exact decide_eq_decide.2 (by omega)
  rw [compared, hz, hn]
  rfl

/-! ### The rows of the Encoding tables (41_arithmetic.md) -/

/-- Settles O16: the rows are reads with ADC, which with D = 0 is the addition of R130. -/
theorem addBinaryResults : Obligations.AddBinaryResults := by
  intro s v b w hD
  simp only [(sameInputs_after 2 s).added_eq hD, (sameInputs_afterOperand s _).added_eq hD]
  refine ⟨⟨rfl, rfl, rfl⟩, exec_of_readRows (k := State.adc) ?adc s⟩
  case adc =>
    simp only [List.Forall]
    and_intros <;> exact ⟨rfl, rfl, rfl, fun _ => rfl⟩

/-- Settles O17: the rows are reads with SBC, which with D = 0 is the subtraction of R131. -/
theorem subtractBinaryResults : Obligations.SubtractBinaryResults := by
  intro s v b w hD
  simp only [(sameInputs_after 2 s).subtracted_eq hD, (sameInputs_afterOperand s _).subtracted_eq hD]
  refine ⟨⟨rfl, rfl, rfl⟩, exec_of_readRows (k := State.sbc) ?sbc s⟩
  case sbc =>
    simp only [List.Forall]
    and_intros <;> exact ⟨rfl, rfl, rfl, fun _ => rfl⟩

/-- Settles O18: the rows are reads with ADC, which with D = 1 has the outcome of R132. -/
theorem addDecimalResults : Obligations.AddDecimalResults := by
  intro s v b w hD
  refine ⟨⟨_, rfl, (sameInputs_after 2 s).decimalAdd hD v⟩, fun r hr hf =>
    ⟨_, (exec_of_readRows (k := State.adc) ?adc s r hr).2 hf, (sameInputs_afterOperand s r.form).decimalAdd hD _⟩⟩
  case adc =>
    simp only [List.Forall]
    and_intros <;> exact ⟨rfl, rfl, rfl, fun _ => rfl⟩

/-- Settles O19: the rows are reads with SBC, which with D = 1 has the outcome of R133. -/
theorem subtractDecimalResults : Obligations.SubtractDecimalResults := by
  intro s v b w hD
  refine ⟨⟨_, rfl, (sameInputs_after 2 s).decimalSub hD v⟩, fun r hr hf =>
    ⟨_, (exec_of_readRows (k := State.sbc) ?sbc s r hr).2 hf, (sameInputs_afterOperand s r.form).decimalSub hD _⟩⟩
  case sbc =>
    simp only [List.Forall]
    and_intros <;> exact ⟨rfl, rfl, rfl, fun _ => rfl⟩

/-- Settles O20: each table is reads with the compare of one register. -/
theorem compareResults : Obligations.CompareResults := by
  intro s v b w
  simp only [compared_eq]
  refine ⟨⟨rfl, rfl, rfl⟩, ⟨rfl, rfl, rfl⟩, ⟨rfl, rfl, rfl⟩, exec_of_readRows (k := State.cmpA) ?cmp s,
    exec_of_readRows (k := State.cmpX) ?cpx s, exec_of_readRows (k := State.cmpY) ?cpy s⟩
  case cmp | cpx | cpy =>
    simp only [List.Forall]
    and_intros <;> exact ⟨rfl, rfl, rfl, fun _ => rfl⟩

/-! ### Every form of an instruction that computes from an operand byte -/

/-- The operand byte is the one at the memory form's address, or the one an immediate instruction carries. -/
theorem operandOf_cases {i : Instr} {s : State} {m : Byte} (h : operandOf i s = some m) :
    (∃ f, Instr.memForm i = some f ∧ m = operandByte s f) ∨ (i.mode = .imm ∧ i.operand = .byte m) := by
  unfold operandOf at h
  split at h
  case h_1 f hf => exact .inl ⟨f, hf, (Option.some.inj h).symm⟩
  case h_2 v _ hmode hv => exact .inr ⟨hmode, by rw [hv, Option.some.inj h]⟩
  case h_3 => cases h

theorem OperandRow.unique {m : Mnemonic} {k k' : Byte → State → State} (h : OperandRow m k) (h' : OperandRow m k') :
    k = k' := by
  cases h <;> cases h' <;> rfl

/-- An instruction in Immediate mode computes from the byte that it carries (R87). -/
theorem exec_immediate {i : Instr} {v : Byte} (hmode : i.mode = .imm) (hv : i.operand = .byte v) :
    ∃ k, OperandRow i.mnemonic k ∧ exec i = immOp k v := by
  cases i with
  | ldaImm => cases hv; exact ⟨_, .lda, rfl⟩
  | ldxImm => cases hv; exact ⟨_, .ldx, rfl⟩
  | ldyImm => cases hv; exact ⟨_, .ldy, rfl⟩
  | adcImm => cases hv; exact ⟨_, .adc, rfl⟩
  | sbcImm => cases hv; exact ⟨_, .sbc, rfl⟩
  | cmpImm => cases hv; exact ⟨_, .cmp, rfl⟩
  | cpxImm => cases hv; exact ⟨_, .cpx, rfl⟩
  | cpyImm => cases hv; exact ⟨_, .cpy, rfl⟩
  | andImm => cases hv; exact ⟨_, .and, rfl⟩
  | eorImm => cases hv; exact ⟨_, .eor, rfl⟩
  | oraImm => cases hv; exact ⟨_, .ora, rfl⟩
  | _ => cases hmode

/-- Such an instruction makes its next state of the operand byte and the state past the instruction. -/
theorem exec_of_operandOf {i : Instr} {mn : Mnemonic} {k : Byte → State → State} {s t : State} {m : Byte}
    (hi : i.mnemonic = mn) (hk : OperandRow mn k) (hm : operandOf i s = some m) (h : exec i s = .next t) :
    ∃ u, Advanced i s u ∧ t = k m u := by
  subst hi
  obtain ⟨f, hf, rfl⟩ | ⟨hmode, hv⟩ := operandOf_cases hm
  · cases exec_memShape hf with
    | read hk' he =>
      obtain rfl := hk.unique hk'
      rw [he, readOp_next] at h
      exact ⟨_, .of_readByte hf .., h.2⟩
    | store hv => exact absurd hv.mem_memoryWriters hk.not_mem_memoryWriters
    | shift hg => exact absurd hg.mem_memoryWriters hk.not_mem_memoryWriters
    | count hd => exact absurd hd.mem_memoryWriters hk.not_mem_memoryWriters
  · obtain ⟨k', hk', he⟩ := exec_immediate hmode hv
    obtain rfl := hk.unique hk'
    rw [he, immOp_next] at h
    exact ⟨_, .of_mode hmode, h⟩

section
variable {i : Instr} {s t : State} {m : Byte} {mn : Mnemonic} {k : Byte → State → State}
  {bin : Byte → Byte → Bool → AluOut} {dec : Byte → Byte → Bool → Byte × Bool}

/-- ADC and SBC with D = 0, in every form. -/
theorem exec_binary (hk : AluRow mn k bin dec) (hi : i.mnemonic = mn) (hD : s.fD = false)
    (hm : operandOf i s = some m) (h : exec i s = .next t) : ∃ u : State, t = u.setAlu (bin s.a m s.fC) := by
  obtain ⟨u, hu, rfl⟩ := exec_of_operandOf hi hk.operandRow hm h
  exact ⟨u, hk.binary hu.sameInputs hD m⟩

/-- ADC and SBC with D = 1 on packed BCD operands, in every form. -/
theorem exec_decimal (hk : AluRow mn k bin dec) (hi : i.mnemonic = mn) (hD : s.fD = true)
    (hm : operandOf i s = some m) (h : exec i s = .next t) (ha : bcdValid s.a = true) (hv : bcdValid m = true) :
    (t.a, t.fC) = dec s.a m s.fC := by
  obtain ⟨u, hu, rfl⟩ := exec_of_operandOf hi hk.operandRow hm h
  rw [hk.decimal hu.sameInputs hD, State.setDecimal_of_valid (hu.sameInputs.a ▸ ha) hv]
  rfl

end

/-- Settles O33: V of the state is that of the addition or the subtraction. -/
theorem overflowByBits : Obligations.OverflowByBits := by
  refine fun s t i m hD hm h => ⟨fun hi => ?adc, fun hi => ?sbc⟩
  case adc =>
    obtain ⟨u, rfl⟩ := exec_binary .adc hi hD hm h
    exact addBinary_overflow s.a m s.fC
  case sbc =>
    obtain ⟨u, rfl⟩ := exec_binary .sbc hi hD hm h
    exact subBinary_overflow s.a m s.fC

/-- Settles O34: both instructions end in the state that the one computation gives. -/
theorem subtractIsAddOfComplement : Obligations.SubtractIsAddOfComplement := by
  intro s hD
  have hadd (v : Byte) : exec (.adcImm (v ^^^ 0xFF#8)) s = .next ((after 2 s).setAlu (subBinary s.a v s.fC)) := by
    rw [subBinary_eq_addBinary_not, ← xor_ff_eq_not, ← AluRow.adc.binary (sameInputs_after 2 s) hD]
    rfl
  refine ⟨fun v => ?immediate, fun i m t hi hm h => ?everyForm⟩
  case immediate =>
    rw [hadd, ← AluRow.sbc.binary (sameInputs_after 2 s) hD]
    rfl
  case everyForm =>
    obtain ⟨u, rfl⟩ := exec_binary .sbc hi hD hm h
    exact ⟨_, hadd m, rfl, rfl, rfl, rfl, rfl⟩

/-- Settles O35: A and C of the state are those of the decimal sum or difference. -/
theorem decimalArithmeticIsExact : Obligations.DecimalArithmeticIsExact := by
  refine fun s t i m hD hm h ha hv => ⟨fun hi => ?adc, fun hi => ?sbc⟩
  case adc =>
    obtain ⟨hta, htc⟩ := Prod.mk.inj (exec_decimal .adc hi hD hm h ha hv)
    rw [hta, htc]
    exact addDecimal_exact ha hv s.fC
  case sbc =>
    obtain ⟨hta, htc⟩ := Prod.mk.inj (exec_decimal .sbc hi hD hm h ha hv)
    rw [hta, htc]
    exact subDecimal_exact ha hv s.fC

end Sys2Proof.Machine
end

section
/-! The logical instructions, row by row (R140 to R143): what AND, EOR, ORA and BIT make of A, the flags and their
operand byte. -/

namespace Sys2Proof.Machine

open Claims

/-- Settles O21: the immediate rows compute, and the other tables are reads with AND, EOR and ORA. -/
theorem logicResults : Obligations.LogicResults := by
  intro s v b w
  refine ⟨⟨rfl, rfl, rfl⟩, ⟨rfl, rfl, rfl⟩, ⟨rfl, rfl, rfl⟩, exec_of_readRows (k := State.andA) ?and s,
    exec_of_readRows (k := State.eorA) ?eor s, exec_of_readRows (k := State.oraA) ?ora s⟩
  case and | eor | ora =>
    simp only [List.Forall]
    and_intros <;> exact ⟨rfl, rfl, rfl, fun _ => rfl⟩

/-- Settles O22: both rows are reads with BIT, which leaves A alone. -/
theorem bitTestResults : Obligations.BitTestResults := by
  intro s b w
  refine exec_of_readRows (k := State.bitTest) ?bit s
  case bit =>
    simp only [List.Forall]
    and_intros <;> exact ⟨rfl, rfl, rfl, fun _ => rfl⟩

end Sys2Proof.Machine
end

section
/-! The shifts and rotates (R150 to R154): ROL and ROR as rotations of the nine bits of C and A, and the tables of the
read-modify-writes, row by row. -/

namespace Sys2Proof.Machine

open Claims

/-! ### Rotation of nine bits (R152, R153) -/

/-- ROL moves the bits up and C into bit 0. -/
theorem rotateLeft_result_eq_concat (c : Bool) (b : Byte) :
    (rotateLeft c b).result = (b.setWidth 7).concat c := by
  apply BitVec.eq_of_toNat_eq
  have hc : c.toNat ≤ 1 := Bool.toNat_le c
  simp only [rotateLeft, BitVec.toNat_ofNat, BitVec.toNat_concat, BitVec.toNat_setWidth]
  omega

/-- ROR moves the bits down and C into bit 7. -/
theorem rotateRight_result_eq_cons (c : Bool) (b : Byte) :
    (rotateRight c b).result = BitVec.cons c (b.extractLsb' 1 7) := by
  apply BitVec.eq_of_toNat_eq
  have hc : c.toNat ≤ 1 := Bool.toNat_le c
  simp only [rotateRight, BitVec.toNat_ofNat, BitVec.toNat_cons', BitVec.extractLsb'_toNat, Nat.shiftLeft_eq,
    Nat.shiftRight_eq_div_pow]
  omega

/-- Below the bit that C puts on top, the bits are those of the byte. -/
theorem getElem_cons_of_lt {n i : Nat} (c : Bool) (x : BitVec n) (h : i < n) : (BitVec.cons c x)[i] = x[i] := by
  rw [BitVec.getElem_cons, dif_neg h.ne]

/-- The bit that ROL shifts out at the top of the nine comes back in at the bottom. -/
theorem cons_rotateLeft (c : Bool) (b : Byte) :
    BitVec.cons (rotateLeft c b).carry (rotateLeft c b).result = (BitVec.cons c b).rotateLeft 1 := by
  ext i hi
  rw [rotateLeft_result_eq_concat, BitVec.getElem_rotateLeft]
  obtain rfl | rfl | ⟨h0, h8⟩ : i = 0 ∨ i = 8 ∨ i ≠ 0 ∧ i < 8 := by omega
  · simp [BitVec.getElem_cons, BitVec.getElem_concat]
  · simp [BitVec.getElem_cons, rotateLeft]
  · simp (disch := omega) [getElem_cons_of_lt, BitVec.getElem_concat, BitVec.getLsbD_eq_getElem, h0]

/-- The bit that ROR shifts out at the bottom of the nine comes back in at the top. -/
theorem cons_rotateRight (c : Bool) (b : Byte) :
    BitVec.cons (rotateRight c b).carry (rotateRight c b).result = (BitVec.cons c b).rotateRight 1 := by
  ext i hi
  rw [rotateRight_result_eq_cons, BitVec.getElem_rotateRight]
  obtain rfl | rfl | h : i = 8 ∨ i = 7 ∨ i < 7 := by omega
  · simp [BitVec.getElem_cons, rotateRight]
  · simp [BitVec.getElem_cons]
  · simp (disch := omega) [getElem_cons_of_lt, BitVec.getLsbD_eq_getElem, show i < 8 by omega]

theorem bitVec_rotateLeft_zero {w : Nat} (x : BitVec w) : x.rotateLeft 0 = x := by
  ext i hi
  simp [BitVec.getElem_rotateLeft]

/-- A rotation by the whole width is the identity. -/
theorem bitVec_rotateLeft_width {w : Nat} (x : BitVec w) : x.rotateLeft w = x := by
  rw [← BitVec.rotateLeft_mod_eq_rotateLeft, Nat.mod_self, bitVec_rotateLeft_zero]

/-- Rotations to the left add up. -/
theorem bitVec_rotateLeft_rotateLeft {w : Nat} (x : BitVec w) (m n : Nat) :
    (x.rotateLeft m).rotateLeft n = x.rotateLeft (m + n) := by
  refine BitVec.eq_of_getMsbD_eq fun i hi => ?_
  have hw : 0 < w := by omega
  simp [BitVec.getMsbD_rotateLeft, hi, Nat.mod_lt _ hw, add_assoc]

/-- A rotation to the right undoes one to the left. -/
theorem bitVec_rotateRight_rotateLeft {w : Nat} (x : BitVec w) (n : Nat) : (x.rotateLeft n).rotateRight n = x := by
  ext i hi
  have hn : n % w < w := Nat.mod_lt _ (by omega)
  rw [BitVec.getElem_rotateRight]
  split
  · rw [BitVec.getElem_rotateLeft, dif_neg (by omega)]
    simp
  · rw [BitVec.getElem_rotateLeft, dif_pos (by omega)]
    congr 1
    omega

/-- The nine bits that rotate: C, and A below it. -/
def State.nineBits (s : State) : BitVec 9 := BitVec.cons s.fC s.a

theorem State.nineBits_inj {s t : State} : t.nineBits = s.nineBits ↔ t.a = s.a ∧ t.fC = s.fC := by
  refine ⟨fun h => ⟨?a, ?fC⟩, fun ⟨ha, hc⟩ => by rw [State.nineBits, State.nineBits, ha, hc]⟩
  case a => simpa [State.nineBits] using congrArg (BitVec.setWidth 8) h
  case fC => simpa [State.nineBits] using congrArg BitVec.msb h

/-- ROL A rotates the nine bits. -/
theorem exec_rolAcc_nineBits (s : State) :
    ∃ t, exec .rolAcc s = .next t ∧ t.nineBits = s.nineBits.rotateLeft 1 :=
  ⟨_, rfl, cons_rotateLeft s.fC s.a⟩

/-- ROR A rotates them the other way. -/
theorem exec_rorAcc_nineBits (s : State) :
    ∃ t, exec .rorAcc s = .next t ∧ t.nineBits = s.nineBits.rotateRight 1 :=
  ⟨_, rfl, cons_rotateRight s.fC s.a⟩

theorem execRepeated_rolAcc_nineBits (n : Nat) (s : State) :
    ∃ t, execRepeated n .rolAcc s = .next t ∧ t.nineBits = s.nineBits.rotateLeft n := by
  induction n generalizing s with
  | zero => exact ⟨s, rfl, (bitVec_rotateLeft_zero _).symm⟩
  | succ n ih =>
    obtain ⟨t, ht, hbits⟩ := exec_rolAcc_nineBits s
    obtain ⟨u, hu, hbits'⟩ := ih t
    refine ⟨u, ?_, by rw [hbits', hbits, bitVec_rotateLeft_rotateLeft, Nat.add_comm]⟩
    rw [execRepeated, ht]
    exact hu

/-- Settles O36: a rotation of nine bits by nine is the identity, and ROR rotates back what ROL rotated. -/
theorem nineRotationsRestore : Obligations.NineRotationsRestore := by
  intro s
  refine ⟨?nine, ?back⟩
  case nine =>
    obtain ⟨t, ht, hbits⟩ := execRepeated_rolAcc_nineBits 9 s
    exact ⟨t, ht, State.nineBits_inj.1 (hbits.trans (bitVec_rotateLeft_width _))⟩
  case back =>
    obtain ⟨t, ht, hleft⟩ := exec_rolAcc_nineBits s
    obtain ⟨u, hu, hright⟩ := exec_rorAcc_nineBits t
    exact ⟨t, u, ht, hu, State.nineBits_inj.1 (by rw [hright, hleft, bitVec_rotateRight_rotateLeft])⟩

/-! ### The tables of the read-modify-writes (R154) -/

/-- Every row of a table of read-modify-writes writes the byte made of the operand byte, and sets its flags. -/
theorem exec_of_modifyRows {α : Type} {g : State → Byte → α} {byte : α → Byte} {k : State → α → State}
    {l : List MemRow} (hl : l.Forall (MemRow.Means (modifyOp g byte k))) (s : State) :
    ∀ r ∈ l, r.encoded ∧ (r.form.hitsDevice s = false →
      modifies s r (byte (g s (operandByte s r.form))) fun t => k t (g s (operandByte s r.form))) := by
  intro r hr
  have hrow := List.forall_iff_forall_mem.1 hl r hr
  refine ⟨hrow.encoded, fun hf => ⟨?meaning, ?frame⟩⟩
  case meaning =>
    rw [hrow.meaning, modifyOp_next, afterOperand_eq]
    exact ⟨hf, rfl⟩
  case frame => exact (afterOperand s r.form).writeByte_storesOnly _ _

/-- A shift or rotate of memory (R150 to R153) as such a table. -/
theorem exec_of_shiftRows {g : Bool → Byte → ShiftOut} {l : List MemRow}
    (hl : l.Forall (MemRow.Means (shiftMem g))) (s : State) :
    ∀ r ∈ l, r.encoded ∧ (r.form.hitsDevice s = false →
      modifies s r (g s.fC (operandByte s r.form)).result fun t => t.setShift (g s.fC (operandByte s r.form))) :=
  exec_of_modifyRows hl s

/-- Settles O23: the Accumulator rows compute, and the tables are shifts of memory. -/
theorem shiftResults : Obligations.ShiftResults := by
  intro s b w
  refine ⟨⟨rfl, rfl, rfl⟩, exec_of_shiftRows (g := aslByte) ?asl s, ⟨rfl, rfl, rfl⟩,
    exec_of_shiftRows (g := lsrByte) ?lsr s⟩
  case asl | lsr =>
    simp only [List.Forall]
    and_intros <;> exact ⟨rfl, rfl, rfl, fun _ => rfl⟩

/-- Settles O24: the Accumulator rows compute, and the tables are rotations of memory through C. -/
theorem rotateResults : Obligations.RotateResults := by
  intro s b w
  refine ⟨⟨rfl, rfl, rfl⟩, exec_of_shiftRows (g := rotateLeft) ?rol s, ⟨rfl, rfl, rfl⟩,
    exec_of_shiftRows (g := rotateRight) ?ror s⟩
  case rol | ror =>
    simp only [List.Forall]
    and_intros <;> exact ⟨rfl, rfl, rfl, fun _ => rfl⟩

end Sys2Proof.Machine
end

section
/-! Increments, decrements and transfers (R160 to R169): the byte DEC and INC store is the operand less or plus one
mod 256, and the one-byte instructions load their register from the state past them. -/

namespace Sys2Proof.Machine

open Claims

/-! ### One less and one more, mod 256 (R160, R161) -/

/-- What DEC adds takes one away. -/
theorem ofInt_toNat_sub_one (b : Byte) : BitVec.ofInt 8 ((b.toNat : Int) - 1) = b + 0xFF#8 := by
  rw [Int.sub_eq_add_neg, BitVec.ofInt_add, BitVec.ofInt_natCast, BitVec.ofNat_toNat, BitVec.setWidth_eq]
  rfl

theorem ofNat_toNat_add_one (b : Byte) : BitVec.ofNat 8 (b.toNat + 1) = b + 1#8 := by
  rw [BitVec.ofNat_add, BitVec.ofNat_toNat, BitVec.setWidth_eq]

/-! ### The tables -/

/-- An increment or decrement of memory by `d` as a table of read-modify-writes, in terms of the byte `v` that adding
`d` makes of the operand. -/
theorem exec_of_countRows {d : Byte} {v : Byte → Byte} (hv : ∀ old, v old = old + d) {l : List MemRow}
    (hl : l.Forall (MemRow.Means (stepMem d))) (s : State) :
    ∀ r ∈ l, r.encoded ∧ (r.form.hitsDevice s = false →
      modifies s r (v (operandByte s r.form)) fun t => t.setNZ (v (operandByte s r.form))) := by
  obtain rfl : v = fun old => old + d := funext hv
  exact exec_of_modifyRows (g := fun _ old => old + d) (byte := id) (k := State.setNZ) hl s

/-- Settles O25: the tables are counts of memory, down by one and up by one. -/
theorem incrementDecrementMemoryResults : Obligations.IncrementDecrementMemoryResults := by
  intro s b w
  refine ⟨exec_of_countRows ofInt_toNat_sub_one ?dec s, exec_of_countRows ofNat_toNat_add_one ?inc s⟩
  case dec | inc =>
    simp only [List.Forall]
    and_intros <;> exact ⟨rfl, rfl, rfl, fun _ => rfl⟩

/-- Settles O26: each meaning loads one register in the state past the instruction's one byte. -/
theorem registerInstructionResults : Obligations.RegisterInstructionResults := by
  intro s
  exact ⟨⟨rfl, rfl, exec_tax s⟩, ⟨rfl, rfl, exec_txa s⟩, ⟨rfl, rfl, exec_dex s⟩, ⟨rfl, rfl, exec_inx s⟩,
    ⟨rfl, rfl, exec_tay s⟩, ⟨rfl, rfl, exec_tya s⟩, ⟨rfl, rfl, exec_dey s⟩, ⟨rfl, rfl, exec_iny s⟩⟩

end Sys2Proof.Machine
end

section
/-! The conditional branches (R170 to R178): what a row of `branches` does, and how long it takes, when its condition
holds and when it does not. -/

namespace Sys2Proof.Machine

open Claims

/-- Every row of the branches is in relative mode with TIM 2, and the times count it as taken when the row says so. -/
theorem branches_relative (d : Byte) (s : State) :
    (branches d s).Forall fun p =>
      p.1.mode = .rel ∧ p.1.operand = .byte d ∧ branchTaken p.1.mnemonic s = p.2 ∧ Instr.tim p.1 = (2, false) := by
  simp only [branches, List.Forall]
  and_intros <;> rfl

/-- Two cycles, one more if the branch is taken, and one more if its target is on another page (R170, R264). -/
theorem cycles_of_mem_branches {i : Instr} {taken : Bool} {d : Byte} {s : State} (h : (i, taken) ∈ branches d s) :
    cycles i s = if taken then (if hi (branchTarget s.pc d) = hi (s.pc + 2#16) then 3 else 4) else 2 := by
  obtain ⟨hmode, hoperand, htaken, htim⟩ := List.forall_iff_forall_mem.1 (branches_relative d s) _ h
  simp only [cycles, branchCycles, hmode, hoperand, htaken, htim, Bool.false_eq_true, if_false]
  split_ifs <;> rfl

/-- A branch on the condition `p`: where it goes and what it takes, when `p` holds and when it does not (R170). -/
theorem branch_on_of_mem_branches {i : Instr} {taken : Bool} {d : Byte} {s : State} {p : Prop}
    (hp : taken = true ↔ p) (h : (i, taken) ∈ branches d s) :
    let target : Word := BitVec.ofInt 16 ((s.pc.toNat : Int) + 2 + d.toInt)
    (p → cycles i s = (if hi target = hi (s.pc + 2#16) then 3 else 4) ∧
      (¬ crossesToDevice s target → exec i s = .next { after 2 s with pc := target })) ∧
    (¬ p → exec i s = .next (after 2 s) ∧ cycles i s = 2) := by
  simp only [← branchTarget_eq, ← hp, cycles_of_mem_branches h, exec_of_mem_branches h]
  constructor
  · rintro rfl
    refine ⟨rfl, fun hcross => ?_⟩
    rw [← State.branchHitsDevice_iff, Bool.not_eq_true] at hcross
    exact branchOp_taken rfl hcross
  · intro hnot
    obtain rfl : taken = false := Bool.eq_false_of_not_eq_true hnot
    exact ⟨branchOp_not_taken rfl, rfl⟩

/-- Settles O27: the op codes compute, and each branch is a row of `branches`, on a flag set or on a flag clear. -/
theorem branchResults : Obligations.BranchResults := by
  intro s d target
  have onSet {i : Instr} {flag : Bool} :=
    branch_on_of_mem_branches (i := i) (d := d) (s := s) (Iff.refl (flag = true))
  have onClear {i : Instr} {flag : Bool} :=
    branch_on_of_mem_branches (i := i) (d := d) (s := s) (Bool.not_eq_true' flag).to_iff
  refine ⟨⟨rfl, onClear ?bpl⟩, ⟨rfl, onSet ?bmi⟩, ⟨rfl, onClear ?bvc⟩, ⟨rfl, onSet ?bvs⟩,
    ⟨rfl, onClear ?bcc⟩, ⟨rfl, onSet ?bcs⟩, ⟨rfl, onClear ?bne⟩, ⟨rfl, onSet ?beq⟩⟩
  case bpl | bmi | bvc | bvs | bcc | bcs | bne | beq => simp [branches]

end Sys2Proof.Machine
end

section
/-! Jumps and subroutines (R180 to R184): the target of an indirect jump, read within one page of the vector, and a JSR
undone by the RTS that follows it, whose pull meets the two bytes that were pushed. -/

namespace Sys2Proof.Machine

open Claims

/-! ### Jumps (R180, R181) -/

/-- Of two reads one after the other, only the draws and the devices' log show in the state (R57). -/
theorem State.readByte_readByte_snd (s : State) (a b : Word) :
    ((s.readByte a).2.readByte b).2 = { s with
      draws := ((s.readByte a).2.readByte b).2.draws, devLog := ((s.readByte a).2.readByte b).2.devLog } :=
  (State.readByte_snd _ b).trans (by simp)

/-- JMP Indirect through a vector outside side-effecting devices, as one update (R181). -/
theorem exec_jmpInd_eq {s : State} {w : Word} (hlow : s.kindOf w ≠ .io) (hhigh : s.kindOf (vectorHighAddr w) ≠ .io) :
    let l := s.readByte w
    let h := l.2.readByte (vectorHighAddr w)
    exec (.jmpInd w) s =
      .next { s with pc := join h.1 l.1, iBefore := s.fI, draws := h.2.draws, devLog := h.2.devLog } := by
  intro l h
  have hread : h.2 = { s with draws := h.2.draws, devLog := h.2.devLog } :=
    s.readByte_readByte_snd w (vectorHighAddr w)
  calc exec (.jmpInd w) s = .next ((h.2.advance 3).jump (join h.1 l.1)) :=
        exec_jmpInd_next.2 ⟨⟨hlow, hhigh⟩, by simp only [State.readByte_advance, l, h]⟩
    _ = _ := by rw [hread]; rfl

/-- Settles O28: the bytes and times compute, and the statement's address of the high byte is the model's. -/
theorem jumpResults : Obligations.JumpResults := by
  intro s w high l h
  refine ⟨⟨rfl, rfl, rfl⟩, rfl, rfl, ?indirect⟩
  have hhigh : high = vectorHighAddr w := (vectorHighAddr_eq w).symm
  simp only [h, l, hhigh]
  exact exec_jmpInd_eq

/-! ### Subroutines (R182 to R184) -/

/-- JSR as one update (R182). -/
theorem exec_jsr_eq (s : State) (w : Word) :
    exec (.jsr w) s = .next { s with
      pc := w, iBefore := s.fI, sp := s.sp - 2#8
      mem := (s.mem.write (stackAddr s.sp) (hi (s.pc + 2#16))).write (stackAddr (s.sp - 1#8)) (lo (s.pc + 2#16)) } := by
  rw [exec_jsr, State.pushWord_eq]
  rfl

/-- RTS as one update (R183). -/
theorem exec_rts_eq (s : State) :
    exec .rts s = .next { s with
      pc := join (s.mem.read (stackAddr (s.sp + 2#8))) (s.mem.read (stackAddr (s.sp + 1#8))) + 1#16
      iBefore := s.fI, sp := s.sp + 2#8 } := by
  rw [exec_rts, State.pullWord_eq]
  rfl

/-- Settles O29: the bytes and times compute, and a read away from the two cells passes both writes. -/
theorem subroutineResults : Obligations.SubroutineResults := by
  intro s w
  simp only [stackCell_eq_stackAddr]
  refine ⟨⟨rfl, rfl, exec_jsr_eq s w, fun a hhigh hlow => ?frame⟩, rfl, rfl, exec_rts_eq s⟩
  rw [Memory.read_write_of_ne _ _ hlow, Memory.read_write_of_ne _ _ hhigh]

/-- Settles O38. RTS pulls the word that JSR pushed, a + 2, and adds 1. -/
theorem subroutineReturns : Obligations.SubroutineReturns := by
  intro s w
  refine ⟨_, exec_jsr_eq s w, ?_⟩
  have hret : s.pc + 2#16 + 1#16 = s.pc + 3#16 := by rw [BitVec.add_assoc]; rfl
  rw [exec_rts, State.pullWord_of_pushed (m := s.mem) (p := s.sp) rfl rfl, join_hi_lo, hret]
  rfl

end Sys2Proof.Machine
end

section
/-! What every step keeps of the platform: the vector addresses and the coming inputs stay, the devices' log and the
count of draws only grow. -/

namespace Sys2Proof.Machine

open Claims

/-- What no step changes but by consuming the script's first entry: the vector addresses and the coming inputs. -/
def State.fixed (s : State) : Word × Word × Word × List Inputs := (s.vecNmi, s.vecReset, s.vecIrq, s.inputs)

/-- `t` comes of `s` without touching the vector addresses or the input script, forgetting a device access, or taking
back a draw. -/
structure Extends (s t : State) : Prop where
  fixed : t.fixed = s.fixed
  devLog : s.devLog <:+ t.devLog
  draws : s.draws ≤ t.draws

/-- An update that moves none of these fields. -/
theorem Extends.of_eq {s t : State} (h : (t.fixed, t.devLog, t.draws) = (s.fixed, s.devLog, s.draws)) :
    Extends s t := by
  obtain ⟨hfixed, hlog, hdraws⟩ : t.fixed = s.fixed ∧ t.devLog = s.devLog ∧ t.draws = s.draws := by
    simpa only [Prod.mk.injEq] using h
  exact ⟨hfixed, hlog ▸ List.suffix_rfl, hdraws.ge⟩

theorem Extends.trans {s t u : State} (hst : Extends s t) (htu : Extends t u) : Extends s u :=
  ⟨htu.fixed.trans hst.fixed, hst.devLog.trans htu.devLog, hst.draws.trans htu.draws⟩

/-! ### Accesses, entries and the fetch -/

theorem State.readByte_extends (s : State) (a : Word) : Extends s (s.readByte a).2 := by
  cases hk : s.kindOf a with
  | ram => rw [State.readByte_backed (.inl hk)]; exact .of_eq rfl
  | rom => rw [State.readByte_backed (.inr hk)]; exact .of_eq rfl
  | io => rw [State.readByte_io (.inl hk)]; exact ⟨rfl, List.suffix_cons .., Nat.le_succ _⟩
  | ioHarmless => rw [State.readByte_io (.inr hk)]; exact ⟨rfl, List.suffix_cons .., Nat.le_succ _⟩
  | unmapped => rw [State.readByte_unmapped hk]; exact ⟨rfl, List.suffix_rfl, Nat.le_succ _⟩

theorem State.writeByte_extends (s : State) (a : Word) (b : Byte) : Extends s (s.writeByte a b) := by
  cases hk : s.kindOf a with
  | ram => rw [State.writeByte_ram b hk]; exact .of_eq rfl
  | rom => rw [State.writeByte_rom b hk]; exact .of_eq rfl
  | io => rw [State.writeByte_io b (.inl hk)]; exact ⟨rfl, List.suffix_cons .., le_rfl⟩
  | ioHarmless => rw [State.writeByte_io b (.inr hk)]; exact ⟨rfl, List.suffix_cons .., le_rfl⟩
  | unmapped => rw [State.writeByte_unmapped b hk]; exact .of_eq rfl

theorem readFrom_extends (n : Nat) (a : Word) (s : State) : Extends s (readFrom n a s).2 := by
  induction n generalizing a s with
  | zero => exact .of_eq rfl
  | succ n ih => exact (s.readByte_extends a).trans (ih _ _)

theorem State.fetch_extends {s u : State} {i : Instr} (h : s.fetch = .ok (i, u)) : Extends s u := by
  obtain ⟨-, rfl⟩ := (s.fetch_eq_ok_iff_decode u i).1 h
  exact readFrom_extends ..

theorem State.readWord_extends (s : State) (a : Word) : Extends s (s.readWord a).2 :=
  (s.readByte_extends a).trans (State.readByte_extends _ _)

/-- Pushes go to RAM; only the read of the vector can take a draw or meet a device (R225). -/
theorem State.enter_extends (s : State) (ret vec : Word) (brk : Bool) : Extends s (s.enter ret vec brk) := by
  rw [State.enter_eq]
  extract_lets p
  have hpushed : Extends s p := .of_eq rfl
  exact (hpushed.trans (p.readWord_extends vec)).trans (.of_eq rfl)

theorem State.resetEntry_extends (s : State) : Extends s s.resetEntry := by
  have hmasked : Extends s { s with fI := true, iBefore := true, nmiPending := false } :=
    .of_eq rfl
  exact (hmasked.trans (State.readWord_extends _ s.vecReset)).trans
    ⟨rfl, List.suffix_rfl, Nat.le_add_right _ 9⟩

/-- Recognition takes at most one draw. -/
theorem State.recognise_extends (s : State) : Extends s s.recognise.2 := by
  refine ⟨by simp [State.fixed], by simp, ?draws⟩
  rcases s.recognise_cases with ⟨-, h⟩ | ⟨-, -, h⟩ | ⟨-, -, -, h⟩ | ⟨-, -, -, -, -, h⟩ | ⟨-, -, -, -, -, h⟩ |
    ⟨-, -, -, -, h⟩ <;> simp [h]

/-! ### Instructions -/

/-- Decimal mode draws (R132, R133). -/
theorem State.setDecimal_extends (s : State) (m : Byte) (r : Byte × Bool) : Extends s (s.setDecimal m r) := by
  unfold State.setDecimal
  split
  · exact ⟨rfl, List.suffix_rfl, Nat.le_add_right s.draws 3⟩
  · exact ⟨rfl, List.suffix_rfl, Nat.le_add_right s.draws 5⟩

theorem State.adc_extends (m : Byte) (s : State) : Extends s (State.adc m s) := by
  unfold State.adc
  split
  · exact s.setDecimal_extends ..
  · exact .of_eq rfl

theorem State.sbc_extends (m : Byte) (s : State) : Extends s (State.sbc m s) := by
  unfold State.sbc
  split
  · exact s.setDecimal_extends ..
  · exact .of_eq rfl

theorem OperandRow.extends {m : Mnemonic} {k : Byte → State → State} (hk : OperandRow m k) (v : Byte) (u : State) :
    Extends u (k v u) := by
  cases hk with
  | adc => exact State.adc_extends v u
  | sbc => exact State.sbc_extends v u
  | _ => exact .of_eq rfl

/-- The implied instructions touch nothing of the platform but, through the stack, memory. -/
theorem ImpliedRow.extends {m : Mnemonic} {k : State → State} (hk : ImpliedRow m k) (u : State) :
    Extends u (k u) := by
  cases hk with
  | pha | php => simp only [State.push_eq]; exact .of_eq rfl
  | pla | plp => simp only [State.pull_eq]; exact .of_eq rfl
  | _ => exact .of_eq rfl

theorem State.advance_extends (s : State) (n : Nat) : Extends s (s.advance n) := .of_eq rfl

theorem State.jump_extends (s : State) (w : Word) : Extends s (s.jump w) := .of_eq rfl

/-- By shape: accesses extend the log and the draws, and what computes from them draws or does nothing. -/
theorem exec_extends {i : Instr} {s t : State} (h : exec i s = .next t) : Extends s t := by
  have hread (a : Word) (n : Nat) : Extends s ((s.readByte a).2.advance n) :=
    (s.readByte_extends a).trans (State.advance_extends _ n)
  cases exec_shape i with
  | read hm hk hf he =>
    rw [he, readOp_next] at h
    obtain ⟨-, rfl⟩ := h
    exact (hread _ _).trans (hk.extends ..)
  | immediate v hm hk hmode he =>
    rw [he, immOp_next] at h
    exact h ▸ (s.advance_extends 2).trans (hk.extends ..)
  | store hm hv hf he =>
    rw [he, storeOp_next] at h
    obtain ⟨-, rfl⟩ := h
    exact (s.advance_extends _).trans (State.writeByte_extends ..)
  | shiftMem hm hg hf he =>
    rw [he, shiftMem_next] at h
    obtain ⟨-, rfl⟩ := h
    exact ((hread _ _).trans (State.writeByte_extends ..)).trans (.of_eq rfl)
  | shiftAcc hm hg hmode he =>
    rw [he, shiftAcc_next] at h
    exact h ▸ .of_eq rfl
  | stepMem hm hd hf he =>
    rw [he, stepMem_next] at h
    obtain ⟨-, rfl⟩ := h
    exact ((hread _ _).trans (State.writeByte_extends ..)).trans (.of_eq rfl)
  | implied hm hk hmode he =>
    rw [he, impliedOp_next] at h
    exact h ▸ (s.advance_extends 1).trans (hk.extends _)
  | branch disp hm hc hmode he =>
    rw [he, branchOp_next] at h
    obtain ⟨-, -, rfl⟩ | ⟨-, rfl⟩ := h
    · exact (s.advance_extends 2).trans (State.jump_extends ..)
    · exact s.advance_extends 2
  | jmpAbs w hi =>
    subst hi
    exact exec_jmpAbs_next.1 h ▸ (s.advance_extends 3).trans (State.jump_extends ..)
  | jmpInd w hi =>
    subst hi
    obtain ⟨-, rfl⟩ := exec_jmpInd_next.1 h
    exact (((s.advance_extends 3).trans (State.readByte_extends ..)).trans (State.readByte_extends ..)).trans
      (State.jump_extends ..)
  | jsr w hi =>
    subst hi
    rw [exec_jsr_next, State.pushWord_eq] at h
    exact h ▸ .of_eq rfl
  | rts hi =>
    subst hi
    rw [exec_rts_next, State.pullWord_eq] at h
    exact h ▸ .of_eq rfl
  | brk hi =>
    subst hi
    exact exec_brk_next.1 h ▸ s.enter_extends ..
  | rti hi =>
    subst hi
    rw [exec_rti_next, State.returnFromException_eq] at h
    exact h ▸ .of_eq rfl

/-! ### Steps -/

/-- Sampling consumes the first entry of the script, if there is one (R39). -/
theorem State.sample_inputs (s : State) : s.sample.inputs = s.inputs.tail := by
  unfold State.sample
  split <;> simp [*]

/-- From the sampled inputs on: recognition, then a reset, an entry, or a fetch and an instruction. -/
theorem step_extends_sample {s t : State} (h : step s = .next t) : Extends s.sample t := by
  obtain ⟨e, u, hr, hstep⟩ := step_cases h
  have hu : Extends s.sample u := by simpa [hr] using s.sample.recognise_extends
  refine hu.trans ?_
  obtain ⟨-, ht⟩ | ⟨-, ht⟩ | ⟨-, ht⟩ | ⟨-, ht⟩ := hstep
  · cases ht
    exact u.resetEntry_extends
  · cases ht
    have hlatch : Extends u { u with nmiPending := false } := .of_eq rfl
    exact hlatch.trans (State.enter_extends ..)
  · cases ht
    exact u.enter_extends ..
  · obtain ⟨i, v, hf, he⟩ := runInstruction_next.1 ht.symm
    exact (State.fetch_extends hf).trans (exec_extends he)

/-- Settles O56. The map and the bytes outside RAM stay by `step_keepsRom`; sampling moves the script alone, and the
rest of the step leaves it. -/
theorem stepKeepsThePlatform : Obligations.StepKeepsThePlatform := by
  intro s t h
  obtain ⟨hregions, hread⟩ := step_keepsRom h
  obtain ⟨hfixed, ⟨l, hlog⟩, hdraws⟩ := step_extends_sample h
  obtain ⟨hnmi, hreset, hirq, hinputs⟩ : t.vecNmi = s.vecNmi ∧ t.vecReset = s.vecReset ∧ t.vecIrq = s.vecIrq ∧
      t.inputs = s.inputs.tail := by
    simpa [State.fixed, State.sample_inputs] using hfixed
  rw [State.sample_devLog] at hlog
  rw [State.sample_draws] at hdraws
  exact ⟨hregions, hnmi, hreset, hirq, hread, ⟨l, hlog.symm⟩, hdraws, hinputs⟩

end Sys2Proof.Machine
end

section
/-! The flag and the stack instructions (R190 to R196, R200 to R205): a flag written or a byte moved in the state past
the instruction's one byte. -/

namespace Sys2Proof.Machine

open Claims

/-- Settles O30: each row's bytes, time and meaning compute. -/
theorem flagInstructionResults : Obligations.FlagInstructionResults := by
  intro s
  exact ⟨⟨rfl, rfl, exec_clc s⟩, ⟨rfl, rfl, exec_sec s⟩, ⟨rfl, rfl, exec_cli s⟩, ⟨rfl, rfl, exec_sei s⟩,
    ⟨rfl, rfl, exec_clv s⟩, ⟨rfl, rfl, exec_cld s⟩, ⟨rfl, rfl, exec_sed s⟩⟩

/-- The statements' status byte, bit by bit, is the model's sum (R34). -/
theorem pByte_eq_statusByte (s : State) (b : Bool) : pByte s b = s.statusByte b := by
  unfold pByte State.statusByte
  generalize s.fN = n, s.fV = v, s.fD = d, s.fI = i, s.fZ = z, s.fC = c
  -- a check of the 128 combinations of bits
  revert b n v d i z c
  decide

/-- A push in the state past the instruction's one byte, as one update (R202, R204). -/
theorem State.advance_push_eq (s : State) (b : Byte) :
    (s.advance 1).push b = { after 1 s with mem := s.mem.write (stackAddr s.sp) b, sp := s.sp - 1#8 } := by
  rw [State.push_eq]
  rfl

/-- Settles O31: a push writes one cell and a pull reads one, and both are updates of the state past the one byte. -/
theorem stackInstructionResults : Obligations.StackInstructionResults := by
  intro s
  simp only [stackCell_eq_stackAddr, pByte_eq_statusByte]
  refine ⟨⟨rfl, rfl, exec_txs s⟩, ⟨rfl, rfl, exec_tsx s⟩, ⟨rfl, rfl, ?pha⟩, ⟨rfl, rfl, ?pla⟩, ⟨rfl, rfl, ?php⟩,
    ⟨rfl, rfl, ?plp⟩, fun _ v hne => s.mem.read_write_of_ne v hne⟩
  case pha | php => exact congrArg _ (s.advance_push_eq _)
  case pla | plp =>
    simp only [exec_pla, exec_plp, impliedOp, State.pull_eq]
    rfl

end Sys2Proof.Machine
end

section
/-! Taking an exception and returning from one (R210 to R212, R225 to R227, R231): a return finds the three bytes that
the entry pushed. Then what a boundary does: the order of its events and the reset step (R224, R250). -/

namespace Sys2Proof.Machine

open Claims

/-! ### Entry and return (R210 to R212, R225 to R227, R231) -/

/-- Of a word read, only the draws and the devices' log show in the state (R57). -/
theorem State.readWord_snd (s : State) (a : Word) :
    (s.readWord a).2 = { s with draws := (s.readWord a).2.draws, devLog := (s.readWord a).2.devLog } :=
  s.readByte_readByte_snd a (a + 1#16)

/-- The model's entry is the statements' (R225). -/
theorem State.enter_eq_entered (s : State) (ret vec : Word) (brk : Bool) :
    s.enter ret vec brk = entered s ret vec brk := by
  rw [State.enter_eq]
  simp only [entered, stackCell_eq_stackAddr, pByte_eq_statusByte]
  rw [State.readWord_snd]
  rfl

/-- An entry changes the three stack bytes and nothing else of memory. -/
theorem entered_mem_read_of_ne (s : State) (vec : Word) (brk : Bool) {ret a : Word} (hhigh : a ≠ stackCell s.sp)
    (hlow : a ≠ stackCell (s.sp - 1#8)) (hstatus : a ≠ stackCell (s.sp - 2#8)) :
    (entered s ret vec brk).mem.read a = s.mem.read a := by
  rw [← State.enter_eq_entered]
  by_contra hne
  simpa [hhigh, hlow, hstatus] using State.enter_read_ne hne

/-- Settles O44: both entries are the one entry, NMI's with the request cleared. -/
theorem interruptEntry : Obligations.InterruptEntry := fun s =>
  ⟨s.enter_eq_entered .., State.enter_eq_entered .., fun vec brk _ => entered_mem_read_of_ne s vec brk⟩

/-- RTI as one update (R211). -/
theorem exec_rti_eq (s : State) :
    let p := s.mem.read (stackCell (s.sp + 1#8))
    exec .rti s = .next (withStatus p { s with
      pc := join (s.mem.read (stackCell (s.sp + 3#8))) (s.mem.read (stackCell (s.sp + 2#8)))
      sp := s.sp + 3#8, iBefore := p.getLsbD 2 }) := by
  simp only [exec_rti, State.returnFromException_eq, stackCell_eq_stackAddr]
  rfl

/-- Settles O32: BRK is the entry with bit 4 set, RTI one update, and NOP nothing past its byte. -/
theorem breakAndReturnResults : Obligations.BreakAndReturnResults := fun s =>
  ⟨⟨rfl, rfl, congrArg _ (s.enter_eq_entered ..)⟩, ⟨rfl, rfl, exec_rti_eq s⟩, rfl, rfl, exec_nop s⟩

/-- The three bytes an entry pushed, where a return finds them. -/
theorem State.enter_mem_read (s : State) (ret vec : Word) (brk : Bool) :
    (s.enter ret vec brk).mem.read (stackAddr (s.sp - 2#8)) = s.statusByte brk ∧
    (s.enter ret vec brk).mem.read (stackAddr (s.sp - 1#8)) = lo ret ∧
    (s.enter ret vec brk).mem.read (stackAddr s.sp) = hi ret := by
  have hlow : s.sp - 1#8 ≠ s.sp - 2#8 := by bv_omega
  have hhigh : s.sp ≠ s.sp - 2#8 := by bv_omega
  have hword : s.sp ≠ s.sp - 1#8 := by bv_omega
  simp only [State.enter_mem, Memory.read_write, stackAddr_inj, hlow, hhigh, hword, if_true, if_false, and_self]

/-- A return right after an entry undoes it: PC is the address pushed, S and every flag are as before (R231). -/
theorem State.returnFromException_enter (s : State) (ret vec : Word) (brk : Bool) :
    (s.enter ret vec brk).returnFromException = { s with
      pc := ret, iBefore := s.fI, mem := (s.enter ret vec brk).mem, draws := (s.enter ret vec brk).draws
      devLog := (s.enter ret vec brk).devLog } := by
  obtain ⟨hstatus, hlow, hhigh⟩ := s.enter_mem_read ret vec brk
  have hsp₁ : s.sp - 3#8 + 1#8 = s.sp - 2#8 := by bv_omega
  have hsp₂ : s.sp - 3#8 + 2#8 = s.sp - 1#8 := by bv_omega
  have hsp₃ : s.sp - 3#8 + 3#8 = s.sp := by bv_omega
  rw [State.returnFromException_eq]
  simp [-State.enter_mem, hsp₁, hsp₂, hsp₃, hstatus, hlow, hhigh]

/-- Settles O39: BRK is an entry that pushes a + 2. -/
theorem breakReturns : Obligations.BreakReturns := fun s =>
  ⟨_, exec_brk s, by rw [exec_rti, State.returnFromException_enter]⟩

/-- Settles O40: both entries push the interrupted PC. -/
theorem interruptReturns : Obligations.InterruptReturns := by
  intro s
  constructor
  · rw [exec_rti, State.irqEntry, State.returnFromException_enter]
  · rw [exec_rti, State.nmiEntry, State.returnFromException_enter]

/-! ### The boundary (R224, R250) -/

/-- Settles O45: of the vector's read the state shows the draws and the devices' log, and what is drawn after it is
some value. -/
theorem resetStep : Obligations.ResetStep := by
  intro s
  simp only [State.resetEntry]
  rw [State.readWord_snd]
  exact ⟨_, _, _, _, _, _, _, _, _, _, rfl⟩

/-! The step of each event. -/

theorem step_of_reset {s u : State} (h : s.sample.recognise = (.reset, u)) : step s = .next u.resetEntry := by
  simp [step, State.boundary, h]

theorem step_of_nmi {s u : State} (h : s.sample.recognise = (.nmi, u)) : step s = .next u.nmiEntry := by
  simp [step, State.boundary, h]

theorem step_of_irq {s u : State} (h : s.sample.recognise = (.irq, u)) : step s = .next u.irqEntry := by
  simp [step, State.boundary, h]

/-! Recognition, request by request. -/

theorem State.recognise_of_reset {s : State} (hr : s.resetReq = true) : s.recognise = (.reset, s) := by
  simp [State.recognise, hr]

theorem State.recognise_of_nmi {s : State} (hr : s.resetReq = false) (hn : s.nmiPending = true) :
    s.recognise = (.nmi, s) := by
  simp [State.recognise, hr, hn]

section
variable {s : State} (hr : s.resetReq = false) (hn : s.nmiPending = false)
include hr hn

theorem State.recognise_of_no_request (hq : s.irqLine = false) : s.recognise = (.instruction, s) := by
  simp [State.recognise, hr, hn, hq]

theorem State.recognise_of_unmasked_irq (hq : s.irqLine = true) (hi : s.fI = false) (hb : s.iBefore = false) :
    s.recognise = (.irq, s) := by
  simp [State.recognise, hr, hn, hq, hi, hb]

theorem State.recognise_of_masked_irq (hq : s.irqLine = true) (hi : s.fI = true) (hb : s.iBefore = true) :
    s.recognise = (.instruction, s) := by
  simp [State.recognise, hr, hn, hq, hi, hb]

/-- Where I has just changed, one draw decides (R230). -/
theorem State.recognise_of_changed_mask (hq : s.irqLine = true) (hi : s.fI ≠ s.iBefore) :
    s.recognise = (if Config.freeBit s.draws then .irq else .instruction, { s with draws := s.draws + 1 }) := by
  simp [State.recognise, hr, hn, hq, hi, State.drawBit]

end

/-- Settles O42: what recognition answers decides the step; where I has just changed, the draw that decides shows in the
count. -/
theorem boundaryOrder : Obligations.BoundaryOrder := by
  intro s u
  refine ⟨fun hr => step_of_reset (State.recognise_of_reset hr),
    fun hr hn => step_of_nmi (State.recognise_of_nmi hr hn), fun hr hn => ⟨?unmasked, ?masked, ?changed, ?none⟩⟩
  case unmasked => exact fun hq hi hb => step_of_irq (State.recognise_of_unmasked_irq hr hn hq hi hb)
  case masked => exact fun hq hi hb => step_of_instruction (State.recognise_of_masked_irq hr hn hq hi hb)
  case none => exact fun hq => step_of_instruction (State.recognise_of_no_request hr hn hq)
  case changed =>
    intro hq hi
    have hrec := State.recognise_of_changed_mask hr hn hq hi
    refine ⟨u.draws + 1, ?_⟩
    cases hbit : Config.freeBit u.draws with
    | true => exact .inl (step_of_irq (by rw [hrec, hbit, if_pos rfl]))
    | false => exact .inr (step_of_instruction (by rw [hrec, hbit, if_neg Bool.false_ne_true]))

/-! ### One mode, no privileged instruction (R220, R232) -/

/-- Settles O50: without such devices nothing is refused, and a fault is the fetch's alone. -/
theorem everyInstructionCompletes : Obligations.EveryInstructionCompletes :=
  fun i s => ⟨fun h => exec_next_of_noDevices h i, exec_ne_fault i s⟩

end Sys2Proof.Machine
end
